-- ==== Sys2Proof/Word.lean ====
section
/-! DEFINITION. The word types of TOTPCORE: 32-bit words (00_scope.md R8 `WORD`), bytes (R10), and the 39-bit host
transaction (30_encoding.md R90). Their arithmetic stands in Machine/Operands.lean. -/

namespace Sys2Proof

/-- A 32-bit word: a register of the port, a chaining word, a block word (R8, R92). -/
abbrev Word := BitVec 32

/-- A byte: an element of a buffer, of DIG or of KBLK (R10). -/
abbrev Byte := BitVec 8

/-- A host transaction: `X[38] = wr`, `X[37:32] = n`, `X[31:0] = data` (R90). -/
abbrev Transaction := BitVec 39

end Sys2Proof
end

