-- ==== Sys2Proof/Syntax.lean ====
section
/-! DEFINITION. The instructions: one constructor for each of the 111 rows of spec/opcode_table.json, that is, for each
command and each register access of the port (30_encoding.md R90 to R96). Every write carries the 32-bit `data` the host
presents, used or not. A read carries none: "on a read the field carries nothing and is ignored by decoding" (R90, log 17). -/

namespace Sys2Proof

/-- A host transaction, decoded. -/
inductive Instr where
  /-- Command NOP, op 0x00 (R121): no effect. -/
  | nop
  /-- Command RESET, op 0x01 (R122): every piece of state to its reset value. -/
  | reset
  /-- Command CLRSEC, op 0x02 (R123): empty SEC. -/
  | clrsec
  /-- Command CLRKEY, op 0x03 (R124): empty KEY, zero KBLK. -/
  | clrkey
  /-- Command CLRMSG, op 0x04 (R125): empty MSG. -/
  | clrmsg
  /-- Command B32DEC, op 0x10 (R169): KEY from SEC. -/
  | b32dec
  /-- Command SHINIT, op 0x20 (R182): load the initial chaining value. -/
  | shinit
  /-- Command SHBLK, op 0x21 (R189): compress the block in W. -/
  | shblk
  /-- Command SHA1, op 0x22 (R195): hash MSG. -/
  | sha1
  /-- Command HMAC, op 0x30 (R226): HMAC of KEY and MSG. -/
  | hmac
  /-- Command TSTEP, op 0x40 (R242): MSG from TIME. -/
  | tstep
  /-- Command TRUNC, op 0x41 (R247): truncate DIG. -/
  | trunc
  /-- Command TOTP, op 0x42 (R250): the whole data flow. -/
  | totp
  /-- A CMD write of `data` that is none of the thirteen commands (R95). -/
  | illcmd (data : Word)
  /-- `wr TIMELO`, data at n = 0x02 (R126). -/
  | wrTimelo (data : Word)
  /-- `wr TIMEHI`, data at n = 0x03 (R127). -/
  | wrTimehi (data : Word)
  /-- `wr SECPUSH`, data at n = 0x04 (R128). -/
  | wrSecpush (data : Word)
  /-- `wr KEYPUSH`, data at n = 0x05 (R129). -/
  | wrKeypush (data : Word)
  /-- `wr MSGPUSH`, data at n = 0x06 (R130). -/
  | wrMsgpush (data : Word)
  /-- `wr BUFIDX`, data at n = 0x07 (R131). -/
  | wrBufidx (data : Word)
  /-- `wr Wi` at n = 0x20 + i (R132). -/
  | wrW (i : Fin 16) (data : Word)
  /-- `wr STATUS, data` at n = 0x01: illegal write (R152). -/
  | wrStatus (data : Word)
  /-- `wr SECLEN, data` at n = 0x08: illegal write (R152). -/
  | wrSeclen (data : Word)
  /-- `wr KEYLEN, data` at n = 0x09: illegal write (R152). -/
  | wrKeylen (data : Word)
  /-- `wr MSGLEN, data` at n = 0x0A: illegal write (R152). -/
  | wrMsglen (data : Word)
  /-- `wr SECRD, data` at n = 0x0B: illegal write (R152). -/
  | wrSecrd (data : Word)
  /-- `wr KEYRD, data` at n = 0x0C: illegal write (R152). -/
  | wrKeyrd (data : Word)
  /-- `wr MSGRD, data` at n = 0x0D: illegal write (R152). -/
  | wrMsgrd (data : Word)
  /-- `wr H0, data` at n = 0x10: illegal write (R152). -/
  | wrH0 (data : Word)
  /-- `wr H1, data` at n = 0x11: illegal write (R152). -/
  | wrH1 (data : Word)
  /-- `wr H2, data` at n = 0x12: illegal write (R152). -/
  | wrH2 (data : Word)
  /-- `wr H3, data` at n = 0x13: illegal write (R152). -/
  | wrH3 (data : Word)
  /-- `wr H4, data` at n = 0x14: illegal write (R152). -/
  | wrH4 (data : Word)
  /-- `wr DIG0, data` at n = 0x18: illegal write (R152). -/
  | wrDig0 (data : Word)
  /-- `wr DIG1, data` at n = 0x19: illegal write (R152). -/
  | wrDig1 (data : Word)
  /-- `wr DIG2, data` at n = 0x1A: illegal write (R152). -/
  | wrDig2 (data : Word)
  /-- `wr DIG3, data` at n = 0x1B: illegal write (R152). -/
  | wrDig3 (data : Word)
  /-- `wr DIG4, data` at n = 0x1C: illegal write (R152). -/
  | wrDig4 (data : Word)
  /-- `wr OFFSET, data` at n = 0x1D: illegal write (R152). -/
  | wrOffset (data : Word)
  /-- `wr VALUE, data` at n = 0x1E: illegal write (R152). -/
  | wrValue (data : Word)
  /-- `wr CODE, data` at n = 0x1F: illegal write (R152). -/
  | wrCode (data : Word)
  /-- `wr CODEBCD, data` at n = 0x30: illegal write (R152). -/
  | wrCodebcd (data : Word)
  /-- `wr reserved 0x0E, data` at n = 0x0E: illegal write (R153). -/
  | wrRsv0E (data : Word)
  /-- `wr reserved 0x0F, data` at n = 0x0F: illegal write (R153). -/
  | wrRsv0F (data : Word)
  /-- `wr reserved 0x15, data` at n = 0x15: illegal write (R153). -/
  | wrRsv15 (data : Word)
  /-- `wr reserved 0x16, data` at n = 0x16: illegal write (R153). -/
  | wrRsv16 (data : Word)
  /-- `wr reserved 0x17, data` at n = 0x17: illegal write (R153). -/
  | wrRsv17 (data : Word)
  /-- `wr reserved 0x31, data` at n = 0x31: illegal write (R153). -/
  | wrRsv31 (data : Word)
  /-- `wr reserved 0x32, data` at n = 0x32: illegal write (R153). -/
  | wrRsv32 (data : Word)
  /-- `wr reserved 0x33, data` at n = 0x33: illegal write (R153). -/
  | wrRsv33 (data : Word)
  /-- `wr reserved 0x34, data` at n = 0x34: illegal write (R153). -/
  | wrRsv34 (data : Word)
  /-- `wr reserved 0x35, data` at n = 0x35: illegal write (R153). -/
  | wrRsv35 (data : Word)
  /-- `wr reserved 0x36, data` at n = 0x36: illegal write (R153). -/
  | wrRsv36 (data : Word)
  /-- `wr reserved 0x37, data` at n = 0x37: illegal write (R153). -/
  | wrRsv37 (data : Word)
  /-- `wr reserved 0x38, data` at n = 0x38: illegal write (R153). -/
  | wrRsv38 (data : Word)
  /-- `wr reserved 0x39, data` at n = 0x39: illegal write (R153). -/
  | wrRsv39 (data : Word)
  /-- `wr reserved 0x3A, data` at n = 0x3A: illegal write (R153). -/
  | wrRsv3A (data : Word)
  /-- `wr reserved 0x3B, data` at n = 0x3B: illegal write (R153). -/
  | wrRsv3B (data : Word)
  /-- `wr reserved 0x3C, data` at n = 0x3C: illegal write (R153). -/
  | wrRsv3C (data : Word)
  /-- `wr reserved 0x3D, data` at n = 0x3D: illegal write (R153). -/
  | wrRsv3D (data : Word)
  /-- `wr reserved 0x3E, data` at n = 0x3E: illegal write (R153). -/
  | wrRsv3E (data : Word)
  /-- `wr reserved 0x3F, data` at n = 0x3F: illegal write (R153). -/
  | wrRsv3F (data : Word)
  /-- `rd STATUS` at n = 0x01 (R133). -/
  | rdStatus
  /-- `rd TIMELO` at n = 0x02 (R134). -/
  | rdTimelo
  /-- `rd TIMEHI` at n = 0x03 (R135). -/
  | rdTimehi
  /-- `rd BUFIDX` at n = 0x07 (R136). -/
  | rdBufidx
  /-- `rd SECLEN` at n = 0x08 (R137). -/
  | rdSeclen
  /-- `rd KEYLEN` at n = 0x09 (R138). -/
  | rdKeylen
  /-- `rd MSGLEN` at n = 0x0A (R139). -/
  | rdMsglen
  /-- `rd SECRD` at n = 0x0B (R140). -/
  | rdSecrd
  /-- `rd KEYRD` at n = 0x0C (R141). -/
  | rdKeyrd
  /-- `rd MSGRD` at n = 0x0D (R142). -/
  | rdMsgrd
  /-- `rd H0` at n = 0x10 (R143). -/
  | rdH0
  /-- `rd H1` at n = 0x11 (R143). -/
  | rdH1
  /-- `rd H2` at n = 0x12 (R143). -/
  | rdH2
  /-- `rd H3` at n = 0x13 (R143). -/
  | rdH3
  /-- `rd H4` at n = 0x14 (R143). -/
  | rdH4
  /-- `rd DIG0` at n = 0x18 (R144). -/
  | rdDig0
  /-- `rd DIG1` at n = 0x19 (R144). -/
  | rdDig1
  /-- `rd DIG2` at n = 0x1A (R144). -/
  | rdDig2
  /-- `rd DIG3` at n = 0x1B (R144). -/
  | rdDig3
  /-- `rd DIG4` at n = 0x1C (R144). -/
  | rdDig4
  /-- `rd OFFSET` at n = 0x1D (R145). -/
  | rdOffset
  /-- `rd VALUE` at n = 0x1E (R146). -/
  | rdValue
  /-- `rd CODE` at n = 0x1F (R147). -/
  | rdCode
  /-- `rd CODEBCD` at n = 0x30 (R148). -/
  | rdCodebcd
  /-- `rd Wi` at n = 0x20 + i (R149). -/
  | rdW (i : Fin 16)
  /-- `rd CMD` at n = 0x00: reads zero (R150). -/
  | rdCmd
  /-- `rd SECPUSH` at n = 0x04: reads zero (R150). -/
  | rdSecpush
  /-- `rd KEYPUSH` at n = 0x05: reads zero (R150). -/
  | rdKeypush
  /-- `rd MSGPUSH` at n = 0x06: reads zero (R150). -/
  | rdMsgpush
  /-- `rd reserved 0x0E` at n = 0x0E: reads zero (R151). -/
  | rdRsv0E
  /-- `rd reserved 0x0F` at n = 0x0F: reads zero (R151). -/
  | rdRsv0F
  /-- `rd reserved 0x15` at n = 0x15: reads zero (R151). -/
  | rdRsv15
  /-- `rd reserved 0x16` at n = 0x16: reads zero (R151). -/
  | rdRsv16
  /-- `rd reserved 0x17` at n = 0x17: reads zero (R151). -/
  | rdRsv17
  /-- `rd reserved 0x31` at n = 0x31: reads zero (R151). -/
  | rdRsv31
  /-- `rd reserved 0x32` at n = 0x32: reads zero (R151). -/
  | rdRsv32
  /-- `rd reserved 0x33` at n = 0x33: reads zero (R151). -/
  | rdRsv33
  /-- `rd reserved 0x34` at n = 0x34: reads zero (R151). -/
  | rdRsv34
  /-- `rd reserved 0x35` at n = 0x35: reads zero (R151). -/
  | rdRsv35
  /-- `rd reserved 0x36` at n = 0x36: reads zero (R151). -/
  | rdRsv36
  /-- `rd reserved 0x37` at n = 0x37: reads zero (R151). -/
  | rdRsv37
  /-- `rd reserved 0x38` at n = 0x38: reads zero (R151). -/
  | rdRsv38
  /-- `rd reserved 0x39` at n = 0x39: reads zero (R151). -/
  | rdRsv39
  /-- `rd reserved 0x3A` at n = 0x3A: reads zero (R151). -/
  | rdRsv3A
  /-- `rd reserved 0x3B` at n = 0x3B: reads zero (R151). -/
  | rdRsv3B
  /-- `rd reserved 0x3C` at n = 0x3C: reads zero (R151). -/
  | rdRsv3C
  /-- `rd reserved 0x3D` at n = 0x3D: reads zero (R151). -/
  | rdRsv3D
  /-- `rd reserved 0x3E` at n = 0x3E: reads zero (R151). -/
  | rdRsv3E
  /-- `rd reserved 0x3F` at n = 0x3F: reads zero (R151). -/
  | rdRsv3F
deriving DecidableEq, Repr

end Sys2Proof
end

