-- ==== Sys2Proof/WellFormed.lean ====
section
/-! DEFINITION. Well-formed instructions. The one check the types do not make: the word of an `illcmd` is none of the
thirteen command words (30_encoding.md R93, R95). -/

namespace Sys2Proof

/-- The thirteen opcodes of R93. A command word is one of them with `data[31:8] = 0` (R91), so it is the number itself. -/
def commandOpcodes : List Nat :=
  [0x00, 0x01, 0x02, 0x03, 0x04, 0x10, 0x20, 0x21, 0x22, 0x30, 0x40, 0x41, 0x42]

/-- `v`, written to CMD, is one of the thirteen commands (R93, R120). -/
def isCommandWord (v : Word) : Bool := commandOpcodes.contains v.toNat

/-- The instruction is one that some transaction encodes. -/
def Instr.wellFormed : Instr → Bool
  | .illcmd v => !isCommandWord v
  | .nop | .reset | .clrsec | .clrkey | .clrmsg | .b32dec | .shinit | .shblk | .sha1 | .hmac | .tstep | .trunc
  | .totp | .wrTimelo _ | .wrTimehi _ | .wrSecpush _ | .wrKeypush _ | .wrMsgpush _ | .wrBufidx _ | .wrW _ _
  | .wrStatus _ | .wrSeclen _ | .wrKeylen _ | .wrMsglen _ | .wrSecrd _ | .wrKeyrd _ | .wrMsgrd _ | .wrH0 _
  | .wrH1 _ | .wrH2 _ | .wrH3 _ | .wrH4 _ | .wrDig0 _ | .wrDig1 _ | .wrDig2 _ | .wrDig3 _ | .wrDig4 _
  | .wrOffset _ | .wrValue _ | .wrCode _ | .wrCodebcd _ | .wrRsv0E _ | .wrRsv0F _ | .wrRsv15 _ | .wrRsv16 _
  | .wrRsv17 _ | .wrRsv31 _ | .wrRsv32 _ | .wrRsv33 _ | .wrRsv34 _ | .wrRsv35 _ | .wrRsv36 _ | .wrRsv37 _
  | .wrRsv38 _ | .wrRsv39 _ | .wrRsv3A _ | .wrRsv3B _ | .wrRsv3C _ | .wrRsv3D _ | .wrRsv3E _ | .wrRsv3F _
  | .rdStatus | .rdTimelo | .rdTimehi | .rdBufidx | .rdSeclen | .rdKeylen | .rdMsglen | .rdSecrd | .rdKeyrd
  | .rdMsgrd | .rdH0 | .rdH1 | .rdH2 | .rdH3 | .rdH4 | .rdDig0 | .rdDig1 | .rdDig2 | .rdDig3 | .rdDig4
  | .rdOffset | .rdValue | .rdCode | .rdCodebcd | .rdW _ | .rdCmd | .rdSecpush | .rdKeypush | .rdMsgpush
  | .rdRsv0E | .rdRsv0F | .rdRsv15 | .rdRsv16 | .rdRsv17 | .rdRsv31 | .rdRsv32 | .rdRsv33 | .rdRsv34 | .rdRsv35
  | .rdRsv36 | .rdRsv37 | .rdRsv38 | .rdRsv39 | .rdRsv3A | .rdRsv3B | .rdRsv3C | .rdRsv3D | .rdRsv3E | .rdRsv3F => true

end Sys2Proof
end

