-- ==== Sys2Proof/Decode.lean ====
section
/-! DEFINITION. The decoder, total on 39-bit transactions (30_encoding.md R90 to R97), and after it the encoder, written
from the same register map (R92) and opcode map (R93). A number that is no 39-bit word is rejected by name. -/

namespace Sys2Proof

/-! ### Fields of a transaction (R90) -/

/-- `X[38] = wr`: 1 for a write, 0 for a read. -/
def Transaction.wr (x : Transaction) : BitVec 1 := x.extractLsb' 38 1

/-- `X[37:32] = n`, the register number. -/
def Transaction.n (x : Transaction) : BitVec 6 := x.extractLsb' 32 6

/-- `X[31:0] = data`. -/
def Transaction.data (x : Transaction) : Word := x.extractLsb' 0 32

/-- The transaction with the three fields of R90. -/
def Transaction.mk (wr : BitVec 1) (n : BitVec 6) (data : Word) : Transaction := wr ++ n ++ data

/-! ### The decoder -/

/-- A write of CMD (R91, R93, R120): `data[31:8]` must be zero and `data[7:0]` one of the thirteen opcodes, else the
word is an illegal command (R95). -/
def decodeCommand (data : Word) : Instr :=
  if data.extractLsb' 8 24 = 0 then
    match (data.extractLsb' 0 8).toNat with
    | 0x00 => .nop
    | 0x01 => .reset
    | 0x02 => .clrsec
    | 0x03 => .clrkey
    | 0x04 => .clrmsg
    | 0x10 => .b32dec
    | 0x20 => .shinit
    | 0x21 => .shblk
    | 0x22 => .sha1
    | 0x30 => .hmac
    | 0x40 => .tstep
    | 0x41 => .trunc
    | 0x42 => .totp
    | _ => .illcmd data
  else .illcmd data

/-- Writes of the registers 0x00 to 0x0F (R92). -/
def writeMap0 : Vector (Word → Instr) 16 := #v[
    decodeCommand, .wrStatus, .wrTimelo, .wrTimehi, .wrSecpush, .wrKeypush, .wrMsgpush, .wrBufidx, .wrSeclen,
    .wrKeylen, .wrMsglen, .wrSecrd, .wrKeyrd, .wrMsgrd, .wrRsv0E, .wrRsv0F]

/-- Writes of the registers 0x10 to 0x1F (R92). -/
def writeMap1 : Vector (Word → Instr) 16 := #v[
    .wrH0, .wrH1, .wrH2, .wrH3, .wrH4, .wrRsv15, .wrRsv16, .wrRsv17, .wrDig0, .wrDig1, .wrDig2, .wrDig3,
    .wrDig4, .wrOffset, .wrValue, .wrCode]

/-- Writes of the registers W0 to W15, at 0x20 + i with `i = n[3:0]` (R92, R94). -/
def writeMap2 : Vector (Word → Instr) 16 := Vector.ofFn fun i => .wrW i

/-- Writes of the registers 0x30 to 0x3F (R92). -/
def writeMap3 : Vector (Word → Instr) 16 := #v[
    .wrCodebcd, .wrRsv31, .wrRsv32, .wrRsv33, .wrRsv34, .wrRsv35, .wrRsv36, .wrRsv37, .wrRsv38, .wrRsv39,
    .wrRsv3A, .wrRsv3B, .wrRsv3C, .wrRsv3D, .wrRsv3E, .wrRsv3F]

/-- Writes by register number, 0x00 to 0x3F (R92). -/
def writeMap : Vector (Word → Instr) 64 := writeMap0 ++ writeMap1 ++ writeMap2 ++ writeMap3

/-- Reads of the registers 0x00 to 0x0F (R92). -/
def readMap0 : Vector Instr 16 := #v[
    .rdCmd, .rdStatus, .rdTimelo, .rdTimehi, .rdSecpush, .rdKeypush, .rdMsgpush, .rdBufidx, .rdSeclen,
    .rdKeylen, .rdMsglen, .rdSecrd, .rdKeyrd, .rdMsgrd, .rdRsv0E, .rdRsv0F]

/-- Reads of the registers 0x10 to 0x1F (R92). -/
def readMap1 : Vector Instr 16 := #v[
    .rdH0, .rdH1, .rdH2, .rdH3, .rdH4, .rdRsv15, .rdRsv16, .rdRsv17, .rdDig0, .rdDig1, .rdDig2, .rdDig3,
    .rdDig4, .rdOffset, .rdValue, .rdCode]

/-- Reads of the registers W0 to W15, at 0x20 + i with `i = n[3:0]` (R92, R94). -/
def readMap2 : Vector Instr 16 := Vector.ofFn fun i => .rdW i

/-- Reads of the registers 0x30 to 0x3F (R92). -/
def readMap3 : Vector Instr 16 := #v[
    .rdCodebcd, .rdRsv31, .rdRsv32, .rdRsv33, .rdRsv34, .rdRsv35, .rdRsv36, .rdRsv37, .rdRsv38, .rdRsv39,
    .rdRsv3A, .rdRsv3B, .rdRsv3C, .rdRsv3D, .rdRsv3E, .rdRsv3F]

/-- Reads by register number, 0x00 to 0x3F (R92). -/
def readMap : Vector Instr 64 := readMap0 ++ readMap1 ++ readMap2 ++ readMap3

/-- The instruction a transaction stands for. Every 39-bit word has one: the table's rows "together decode every
39-bit transaction word". -/
def decode (x : Transaction) : Instr :=
  if x.wr = 1 then writeMap[x.n.toNat] x.data else readMap[x.n.toNat]

/-- Why bits are not decoded. -/
inductive DecodeReject where
  /-- The number has a bit set at or above bit 39, so it is no transaction (R90: "All transactions have this one
  length"). Safe: nothing is run (log 10). -/
  | notATransaction
deriving DecidableEq, Repr

/-- A number as a transaction (R90), rejected by name when it is wider than 39 bits. -/
def toTransaction (w : Nat) : Except DecodeReject Transaction :=
  if w < 2 ^ 39 then .ok (BitVec.ofNat 39 w) else .error .notATransaction

/-- Decoding of any bits, given as a number with bit 0 the least significant. -/
def decodeNat (w : Nat) : Except DecodeReject Instr := (toTransaction w).map decode

/-- The word of `nbits` bits as the table numbers them, every bit above `nbits` zero. There is no byte layout below it:
the 39-bit word "is a notation of this spec" (R90). -/
def tableTransaction (nbits w : Nat) : Option Transaction := (toTransaction (w % 2 ^ nbits)).toOption

/-- The instruction the decoder reads from a word of the opcode table. -/
def decodeTableWord (nbits w : Nat) : Option Instr := (tableTransaction nbits w).map decode

/-! ### The encoder -/

/-- A command: `wr = 1`, `n = 0x00`, `data = op` (R91, R93). -/
def commandWord (op : Word) : Transaction := .mk 1 0x00 op

/-- `wr <REG>, data` (R98). -/
def writeWord (n : BitVec 6) (data : Word) : Transaction := .mk 1 n data

/-- `rd <REG>` (R98); the data field is written as zero. -/
def readWord (n : BitVec 6) : Transaction := .mk 0 n 0

/-- The register number of `Wi`, 0x20 + i (R94). -/
def wNumber (i : Fin 16) : BitVec 6 := BitVec.ofNat 6 (0x20 + i)

/-- The words of an instruction, from the maps of R92 and R93. -/
def encode : Instr → Transaction
  | .nop => commandWord 0x00
  | .reset => commandWord 0x01
  | .clrsec => commandWord 0x02
  | .clrkey => commandWord 0x03
  | .clrmsg => commandWord 0x04
  | .b32dec => commandWord 0x10
  | .shinit => commandWord 0x20
  | .shblk => commandWord 0x21
  | .sha1 => commandWord 0x22
  | .hmac => commandWord 0x30
  | .tstep => commandWord 0x40
  | .trunc => commandWord 0x41
  | .totp => commandWord 0x42
  | .illcmd data => commandWord data
  | .wrTimelo data => writeWord 0x02 data
  | .wrTimehi data => writeWord 0x03 data
  | .wrSecpush data => writeWord 0x04 data
  | .wrKeypush data => writeWord 0x05 data
  | .wrMsgpush data => writeWord 0x06 data
  | .wrBufidx data => writeWord 0x07 data
  | .wrW i data => writeWord (wNumber i) data
  | .wrStatus data => writeWord 0x01 data
  | .wrSeclen data => writeWord 0x08 data
  | .wrKeylen data => writeWord 0x09 data
  | .wrMsglen data => writeWord 0x0A data
  | .wrSecrd data => writeWord 0x0B data
  | .wrKeyrd data => writeWord 0x0C data
  | .wrMsgrd data => writeWord 0x0D data
  | .wrH0 data => writeWord 0x10 data
  | .wrH1 data => writeWord 0x11 data
  | .wrH2 data => writeWord 0x12 data
  | .wrH3 data => writeWord 0x13 data
  | .wrH4 data => writeWord 0x14 data
  | .wrDig0 data => writeWord 0x18 data
  | .wrDig1 data => writeWord 0x19 data
  | .wrDig2 data => writeWord 0x1A data
  | .wrDig3 data => writeWord 0x1B data
  | .wrDig4 data => writeWord 0x1C data
  | .wrOffset data => writeWord 0x1D data
  | .wrValue data => writeWord 0x1E data
  | .wrCode data => writeWord 0x1F data
  | .wrCodebcd data => writeWord 0x30 data
  | .wrRsv0E data => writeWord 0x0E data
  | .wrRsv0F data => writeWord 0x0F data
  | .wrRsv15 data => writeWord 0x15 data
  | .wrRsv16 data => writeWord 0x16 data
  | .wrRsv17 data => writeWord 0x17 data
  | .wrRsv31 data => writeWord 0x31 data
  | .wrRsv32 data => writeWord 0x32 data
  | .wrRsv33 data => writeWord 0x33 data
  | .wrRsv34 data => writeWord 0x34 data
  | .wrRsv35 data => writeWord 0x35 data
  | .wrRsv36 data => writeWord 0x36 data
  | .wrRsv37 data => writeWord 0x37 data
  | .wrRsv38 data => writeWord 0x38 data
  | .wrRsv39 data => writeWord 0x39 data
  | .wrRsv3A data => writeWord 0x3A data
  | .wrRsv3B data => writeWord 0x3B data
  | .wrRsv3C data => writeWord 0x3C data
  | .wrRsv3D data => writeWord 0x3D data
  | .wrRsv3E data => writeWord 0x3E data
  | .wrRsv3F data => writeWord 0x3F data
  | .rdStatus => readWord 0x01
  | .rdTimelo => readWord 0x02
  | .rdTimehi => readWord 0x03
  | .rdBufidx => readWord 0x07
  | .rdSeclen => readWord 0x08
  | .rdKeylen => readWord 0x09
  | .rdMsglen => readWord 0x0A
  | .rdSecrd => readWord 0x0B
  | .rdKeyrd => readWord 0x0C
  | .rdMsgrd => readWord 0x0D
  | .rdH0 => readWord 0x10
  | .rdH1 => readWord 0x11
  | .rdH2 => readWord 0x12
  | .rdH3 => readWord 0x13
  | .rdH4 => readWord 0x14
  | .rdDig0 => readWord 0x18
  | .rdDig1 => readWord 0x19
  | .rdDig2 => readWord 0x1A
  | .rdDig3 => readWord 0x1B
  | .rdDig4 => readWord 0x1C
  | .rdOffset => readWord 0x1D
  | .rdValue => readWord 0x1E
  | .rdCode => readWord 0x1F
  | .rdCodebcd => readWord 0x30
  | .rdW i => readWord (wNumber i)
  | .rdCmd => readWord 0x00
  | .rdSecpush => readWord 0x04
  | .rdKeypush => readWord 0x05
  | .rdMsgpush => readWord 0x06
  | .rdRsv0E => readWord 0x0E
  | .rdRsv0F => readWord 0x0F
  | .rdRsv15 => readWord 0x15
  | .rdRsv16 => readWord 0x16
  | .rdRsv17 => readWord 0x17
  | .rdRsv31 => readWord 0x31
  | .rdRsv32 => readWord 0x32
  | .rdRsv33 => readWord 0x33
  | .rdRsv34 => readWord 0x34
  | .rdRsv35 => readWord 0x35
  | .rdRsv36 => readWord 0x36
  | .rdRsv37 => readWord 0x37
  | .rdRsv38 => readWord 0x38
  | .rdRsv39 => readWord 0x39
  | .rdRsv3A => readWord 0x3A
  | .rdRsv3B => readWord 0x3B
  | .rdRsv3C => readWord 0x3C
  | .rdRsv3D => readWord 0x3D
  | .rdRsv3E => readWord 0x3E
  | .rdRsv3F => readWord 0x3F

end Sys2Proof
end

