-- ==== Sys2Proof/Config.lean ====
section
/-! DEFINITION. What an implementation fixes (00_scope.md R9: the capacities of the three buffers) and the one value the
spec leaves open (42_sha1.md R192: the length field of a message too long for it). -/

namespace Sys2Proof

/-- The parameters R9 leaves open. A configuration is carried by `State.cfg` and written by no step (log 3). -/
structure Config where
  /-- SECCAP, the capacity of SEC in symbols. -/
  secCap : Nat
  /-- KEYCAP, the capacity of KEY in bytes. -/
  keyCap : Nat
  /-- MSGCAP, the capacity of MSG in bytes. -/
  msgCap : Nat
deriving DecidableEq, Repr

/-- The largest capacity R9 allows, 2^32 − 1, which is also the reference value of each. -/
def Config.maxCap : Nat := 4294967295

/-- The reference values of R9, "under which no overflow is reachable in practice". -/
def Config.reference : Config := ⟨Config.maxCap, Config.maxCap, Config.maxCap⟩

/-- The constraints of R9: `1 ≤ SECCAP`, `floor(5·SECCAP/8) ≤ KEYCAP`, `8 ≤ MSGCAP`, each at most 2^32 − 1. -/
abbrev Config.ok (c : Config) : Prop :=
  1 ≤ c.secCap ∧ c.secCap ≤ Config.maxCap ∧
  5 * c.secCap / 8 ≤ c.keyCap ∧ c.keyCap ≤ Config.maxCap ∧
  8 ≤ c.msgCap ∧ c.msgCap ≤ Config.maxCap

/-- FREE VALUE (DESIGN CHOICE, log 6): the 64-bit length field padding writes for a message of `L` bytes when the
bit length `8·L` does not fit 64 bits. R192: "DOC00 does not say what happens beyond that", and no run reaches it. -/
opaque Config.longLengthField : Nat → BitVec 64

end Sys2Proof
end

