-- ==== Sys2Proof/Machine/State.lean ====
section
/-! DEFINITION. The state of TOTPCORE (10_state.md R20 to R40), the reasons a step could stop, and the state after reset
(R39). The last three fields are the model's own: the configuration the block is built with, and the two sides of the
port. -/

namespace Sys2Proof.Machine

/-- Where the sequencer stands inside a command (R37). Which stages there are is log 5. -/
inductive Stage where
  /-- Between commands. -/
  | idle
  /-- The hash of SHA1. -/
  | hash
  /-- P226: the hash of a long key. -/
  | keyHash
  /-- P226: the inner hash. -/
  | inner
  /-- P226: the outer hash. -/
  | outer
  /-- P250: decoding SEC. -/
  | decode
  /-- P250: the counter bytes. -/
  | timeStep
  /-- P250: the truncation. -/
  | truncation
deriving DecidableEq, Repr

/-- PHASE (R37): the stage, and how many blocks of the padded message of that stage have been taken up. -/
structure Phase where
  stage : Stage
  block : Nat
deriving DecidableEq, Repr

/-- PHASE between commands (R37). -/
def Phase.idle : Phase := ⟨.idle, 0⟩

/-- The working registers A to E of the round function (R25). -/
structure Regs where
  a : Word
  b : Word
  c : Word
  d : Word
  e : Word
deriving DecidableEq, Repr

/-- The hidden registers of R24, R25, R36 and R37, which no host access can read. What they hold between commands is
log 4 (93_implementation_defined.md U7). -/
structure Hidden where
  /-- WS, the message schedule (R24). -/
  ws : Vector Word 80
  /-- A to E (R25). -/
  regs : Regs
  /-- T, the round index, 0 to 80 (R25). -/
  t : Fin 81
  /-- ACC, the Base32 bit accumulator (R36). -/
  acc : BitVec 12
  /-- NB, its bit count, 0 to 12 (R36). -/
  nb : Fin 13
  /-- PHASE (R37). -/
  phase : Phase
deriving DecidableEq, Repr

/-- What the host can do to the block: a register access (30_encoding.md R90), or assert the reset input
(70_reset_and_hazards.md R330; log 8). -/
inductive PortEvent where
  | access (x : Transaction)
  | hardReset
deriving DecidableEq, Repr

/-- The whole machine. -/
structure State where
  /-- H, the chaining words (R22). -/
  h : Vector Word 5
  /-- W, the block words (R23). -/
  w : Vector Word 16
  /-- DIG, the digest, first byte first (R26). -/
  dig : Vector Byte 20
  /-- SEC; SECLEN is its length (R27). -/
  sec : List Byte
  /-- KEY; KEYLEN is its length (R28). -/
  key : List Byte
  /-- MSG; MSGLEN is its length (R29). -/
  msg : List Byte
  /-- BUFIDX (R30). -/
  bufidx : Word
  /-- TIME (R31). -/
  time : BitVec 64
  /-- OFFSET (R32). -/
  offset : BitVec 4
  /-- VALUE (R32). -/
  value : BitVec 31
  /-- CODE (R32). -/
  code : BitVec 20
  /-- CODEBCD (R32). -/
  codebcd : BitVec 24
  /-- STATUS bit 0, DV (R33). -/
  dv : Bool
  /-- STATUS bit 1, CV (R33). -/
  cv : Bool
  /-- STATUS bit 2, ERR (R33). -/
  err : Bool
  /-- STATUS bit 3, NOSEC (R33). -/
  nosec : Bool
  /-- STATUS bit 4, ILL, sticky (R33). -/
  ill : Bool
  /-- STATUS bit 5, OVF, sticky (R33). -/
  ovf : Bool
  /-- KBLK, the HMAC key block, hidden (R35). -/
  kblk : Vector Byte 64
  /-- The hidden registers of R24, R25, R36, R37. -/
  hid : Hidden
  /-- The capacities the block is built with (00_scope.md R9); no step writes them (log 3). -/
  cfg : Config
  /-- What the host has yet to do at the port, oldest first (log 1). -/
  pending : List PortEvent
  /-- The words that register reads have returned, oldest first (log 2). -/
  answers : List Word
deriving DecidableEq, Repr

/-- Faults: none. "No other condition exists: no command and no access can fault, hang or produce an undefined result"
(60_exceptions.md R300); the four conditions there are flags of STATUS. -/
inductive Fault where
deriving DecidableEq, Repr

/-- Refusals. -/
inductive Refusal where
  /-- An instruction without a meaning in this model, raised by an arm of `exec` alone (safe). No arm raises it. -/
  | notModelled (mnemonic : String)
deriving DecidableEq, Repr

/-- The hidden registers at reset: zero and idle (R39). -/
def Hidden.reset : Hidden :=
  ⟨Vector.replicate 80 0, ⟨0, 0, 0, 0, 0⟩, 0, 0, 0, Phase.idle⟩

/-- The machine right after reset (R39): every register and flag zero, every buffer empty. The capacities are the
reference values of R9 (log 3), and the host has done nothing yet. -/
def State.reset : State where
  h := Vector.replicate 5 0
  w := Vector.replicate 16 0
  dig := Vector.replicate 20 0
  sec := []
  key := []
  msg := []
  bufidx := 0
  time := 0
  offset := 0
  value := 0
  code := 0
  codebcd := 0
  dv := false
  cv := false
  err := false
  nosec := false
  ill := false
  ovf := false
  kblk := Vector.replicate 64 0
  hid := Hidden.reset
  cfg := Config.reference
  pending := []
  answers := []

end Sys2Proof.Machine
end

