-- ==== Sys2Proof/Machine/Flags.lean ====
section
/-! DEFINITION. STATUS (10_state.md R33): the word its six flags (log 14) read as, and the writing of the flags that are not
conditions. The flags of the conditions are written by `State.raise` (Machine/Ops.lean). -/

namespace Sys2Proof.Machine

/-- The value a read of STATUS returns (40_host_port.md R133): `OVF·32 + ILL·16 + NOSEC·8 + ERR·4 + CV·2 + DV`, bits
31:6 zero. -/
def State.statusWord (s : State) : Word :=
  BitVec.ofNat 32
    (s.ovf.toNat * 32 + s.ill.toNat * 16 + s.nosec.toNat * 8 + s.err.toNat * 4 + s.cv.toNat * 2 + s.dv.toNat)

/-- `flag DV` (42_sha1.md R195, 43_hmac.md R226). -/
def State.flagDv (s : State) : State := { s with dv := true }

/-- `CV <- DV`, what TRUNC does to the flags (44_totp_truncation.md R247). -/
def State.cvFromDv (s : State) : State := { s with cv := s.dv }

/-- The flags of a TOTP that produced a code (P250): CV set, ERR and NOSEC clear. -/
def State.flagCode (s : State) : State := { s with nosec := false, err := false, cv := true }

end Sys2Proof.Machine
end

