-- ==== Sys2Proof/Machine/Operands.lean ====
section
/-! DEFINITION. The arithmetic and conversion primitives (00_scope.md R10 to R12) and the operand forms of the port
(30_encoding.md R94): no field is sign-extended anywhere. -/

namespace Sys2Proof.Machine

/-- `rotl32` (R11). -/
def rotl32 (x : Word) (n : Nat) : Word := (x <<< n) ||| (x >>> (32 - n))

/-- `add32` of two words (R11): the sum modulo 2^32. -/
def add32 (x y : Word) : Word := x + y

/-- `not32` (R11). -/
def not32 (x : Word) : Word := x ^^^ 0xFFFFFFFF

/-- `BE32` (R12): four bytes as a word, the first the most significant. -/
def be32 (b0 b1 b2 b3 : Byte) : Word := b0 ++ b1 ++ b2 ++ b3

/-- Byte `m` of `be32(x)` (R12): `x[31−8m : 24−8m]`. -/
def byteOfWord (x : Word) (m : Nat) : Byte := x.extractLsb' (24 - 8 * m) 8

/-- `be64` (R12): byte `i` is `n[63−8i : 56−8i]`. -/
def be64 (n : BitVec 64) : List Byte := List.ofFn fun i : Fin 8 => n.extractLsb' (56 - 8 * i) 8

/-- `rep` (R10). -/
def rep (b : Byte) (n : Nat) : List Byte := List.replicate n b

/-- `zext_32` (R12). -/
def zext32 {k : Nat} (v : BitVec k) : Word := v.setWidth 32

/-- The element a push appends: `data[7:0]`, with `data[31:8]` ignored (R94). -/
def pushByte (data : Word) : Byte := data.extractLsb' 0 8

/-- A length as a port register shows it, 32 bits (R92, R137 to R139). It is the length itself while the buffer is
within its capacity, which R9 keeps below 2^32 (log 7). -/
def lengthWord (b : List Byte) : Word := BitVec.ofNat 32 b.length

/-- A read-back register (40_host_port.md R140 to R142): the element at `idx` zero-extended, or 0x80000000 where the
buffer has none. -/
def readBack (b : List Byte) (idx : Word) : Word :=
  match b[idx.toNat]? with
  | some v => zext32 v
  | none => 0x80000000

/-- TIME with its low half replaced (R126). -/
def setTimeLo (time : BitVec 64) (data : Word) : BitVec 64 := time.extractLsb' 32 32 ++ data

/-- TIME with its high half replaced (R127). -/
def setTimeHi (time : BitVec 64) (data : Word) : BitVec 64 := data ++ time.extractLsb' 0 32

/-- TIME[31:0] (R134). -/
def timeLo (time : BitVec 64) : Word := time.extractLsb' 0 32

/-- TIME[63:32] (R135). -/
def timeHi (time : BitVec 64) : Word := time.extractLsb' 32 32

end Sys2Proof.Machine
end

