-- ==== Sys2Proof/Machine/Ops.lean ====
section
/-! DEFINITION. The operations the meanings share: the buffers (00_scope.md R13, 20_memory.md R60 to R62, R80), the
recording of a condition (60_exceptions.md R300 to R305), reset (70_reset_and_hazards.md R330, R331), the answer of a
read (40_host_port.md section 4), and the taking up of what the host does. -/

namespace Sys2Proof.Machine

/-! ### The buffers -/

/-- The form of the block's memory (log 13): each buffer is a sequence of bytes no longer than its capacity
(R27 to R29), so equal memories are equal lists. -/
abbrev Memory.wf (s : State) : Prop :=
  s.sec.length ≤ s.cfg.secCap ∧ s.key.length ≤ s.cfg.keyCap ∧ s.msg.length ≤ s.cfg.msgCap

/-! ### Conditions -/

/-- The four conditions of R300, the complete list. -/
inductive Condition where
  /-- ERR: the last TOTP found no key in a non-empty secret (R301). -/
  | invalidSecret
  /-- NOSEC: the last TOTP found SEC empty (R303). -/
  | noSecret
  /-- ILL: an illegal command or an illegal write (R304). -/
  | illegalAccess
  /-- OVF: a push into a full buffer (R305). -/
  | overflow
deriving DecidableEq, Repr

/-- What taking a condition does, and all it does: "no condition of rule R300 transfers control, saves state, changes a
mode or masks anything" (R309). There is no return from one (R310): ERR and NOSEC are rewritten by the next TOTP, ILL and
OVF stay until reset. -/
def State.raise (c : Condition) (s : State) : State :=
  match c with
  | .invalidSecret => { s with err := true, nosec := false, cv := false, key := [] }
  | .noSecret => { s with nosec := true, err := false, cv := false, key := [] }
  | .illegalAccess => { s with ill := true }
  | .overflow => { s with ovf := true }

/-- `if SECLEN < SECCAP then append(SEC, b) else flag OVF` (R128). -/
def State.pushSec (b : Byte) (s : State) : State :=
  if s.sec.length < s.cfg.secCap then { s with sec := s.sec ++ [b] } else s.raise .overflow

/-- `if KEYLEN < KEYCAP then append(KEY, b) else flag OVF` (R129). -/
def State.pushKey (b : Byte) (s : State) : State :=
  if s.key.length < s.cfg.keyCap then { s with key := s.key ++ [b] } else s.raise .overflow

/-- `if MSGLEN < MSGCAP then append(MSG, b) else flag OVF` (R130). -/
def State.pushMsg (b : Byte) (s : State) : State :=
  if s.msg.length < s.cfg.msgCap then { s with msg := s.msg ++ [b] } else s.raise .overflow

/-! ### The hidden sequencer -/

/-- The sequencer takes up a stage of a command (R37). -/
def State.enter (stage : Stage) (s : State) : State := { s with hid := { s.hid with phase := ⟨stage, 0⟩ } }

/-- The command ends: PHASE is idle between commands (R37). -/
def State.finish (s : State) : State := { s with hid := { s.hid with phase := Phase.idle } }

/-! ### Reset -/

/-- Hard reset (R330): every piece of state of the block at its reset value (R39). The configuration is no state of the
block, and what the host has received or has yet to do is the host's. -/
def State.hardReset (s : State) : State :=
  { State.reset with cfg := s.cfg, pending := s.pending, answers := s.answers }

/-! ### The port -/

/-- The port returns `v` to the host. Nothing of the block changes (R74). -/
def State.answer (v : Word) (s : State) : State := { s with answers := s.answers ++ [v] }

/-- What the host does next, and the state with that taken from its list; none when the host has nothing to do. -/
def State.takeEvent (s : State) : Option (PortEvent × State) :=
  match s.pending with
  | [] => none
  | e :: rest => some (e, { s with pending := rest })

/-- The host is about to do `e`, before all else it has to do. -/
def State.present (e : PortEvent) (s : State) : State := { s with pending := e :: s.pending }

/-- The host is about to present a word of the opcode table. A number that is no transaction is not presented (log 10). -/
def State.presentTableWord (nbits w : Nat) (s : State) : State :=
  match tableTransaction nbits w with
  | some x => s.present (.access x)
  | none => s

end Sys2Proof.Machine
end

