-- ==== Sys2Proof/Machine/EmptyRead.lean ====
section
/-! DEFINITION. Reads that return zero: of a write-only register (40_host_port.md R150) and of a reserved register number (R151).
No state changes and no flag is set. -/

namespace Sys2Proof.Machine

/-- `rd CMD` (R150). -/
def execRdCmd (s : State) : Host.Outcome State Fault Refusal := .next (s.answer 0)

/-- `rd SECPUSH` (R150). -/
def execRdSecpush (s : State) : Host.Outcome State Fault Refusal := .next (s.answer 0)

/-- `rd KEYPUSH` (R150). -/
def execRdKeypush (s : State) : Host.Outcome State Fault Refusal := .next (s.answer 0)

/-- `rd MSGPUSH` (R150). -/
def execRdMsgpush (s : State) : Host.Outcome State Fault Refusal := .next (s.answer 0)

/-- Read of reserved 0x0E (R151). -/
def execRdRsv0E (s : State) : Host.Outcome State Fault Refusal := .next (s.answer 0)

/-- Read of reserved 0x0F (R151). -/
def execRdRsv0F (s : State) : Host.Outcome State Fault Refusal := .next (s.answer 0)

/-- Read of reserved 0x15 (R151). -/
def execRdRsv15 (s : State) : Host.Outcome State Fault Refusal := .next (s.answer 0)

/-- Read of reserved 0x16 (R151). -/
def execRdRsv16 (s : State) : Host.Outcome State Fault Refusal := .next (s.answer 0)

/-- Read of reserved 0x17 (R151). -/
def execRdRsv17 (s : State) : Host.Outcome State Fault Refusal := .next (s.answer 0)

/-- Read of reserved 0x31 (R151). -/
def execRdRsv31 (s : State) : Host.Outcome State Fault Refusal := .next (s.answer 0)

/-- Read of reserved 0x32 (R151). -/
def execRdRsv32 (s : State) : Host.Outcome State Fault Refusal := .next (s.answer 0)

/-- Read of reserved 0x33 (R151). -/
def execRdRsv33 (s : State) : Host.Outcome State Fault Refusal := .next (s.answer 0)

/-- Read of reserved 0x34 (R151). -/
def execRdRsv34 (s : State) : Host.Outcome State Fault Refusal := .next (s.answer 0)

/-- Read of reserved 0x35 (R151). -/
def execRdRsv35 (s : State) : Host.Outcome State Fault Refusal := .next (s.answer 0)

/-- Read of reserved 0x36 (R151). -/
def execRdRsv36 (s : State) : Host.Outcome State Fault Refusal := .next (s.answer 0)

/-- Read of reserved 0x37 (R151). -/
def execRdRsv37 (s : State) : Host.Outcome State Fault Refusal := .next (s.answer 0)

/-- Read of reserved 0x38 (R151). -/
def execRdRsv38 (s : State) : Host.Outcome State Fault Refusal := .next (s.answer 0)

/-- Read of reserved 0x39 (R151). -/
def execRdRsv39 (s : State) : Host.Outcome State Fault Refusal := .next (s.answer 0)

/-- Read of reserved 0x3A (R151). -/
def execRdRsv3A (s : State) : Host.Outcome State Fault Refusal := .next (s.answer 0)

/-- Read of reserved 0x3B (R151). -/
def execRdRsv3B (s : State) : Host.Outcome State Fault Refusal := .next (s.answer 0)

/-- Read of reserved 0x3C (R151). -/
def execRdRsv3C (s : State) : Host.Outcome State Fault Refusal := .next (s.answer 0)

/-- Read of reserved 0x3D (R151). -/
def execRdRsv3D (s : State) : Host.Outcome State Fault Refusal := .next (s.answer 0)

/-- Read of reserved 0x3E (R151). -/
def execRdRsv3E (s : State) : Host.Outcome State Fault Refusal := .next (s.answer 0)

/-- Read of reserved 0x3F (R151). -/
def execRdRsv3F (s : State) : Host.Outcome State Fault Refusal := .next (s.answer 0)

end Sys2Proof.Machine
end

