-- ==== Sys2Proof/Machine/Housekeeping.lean ====
section
/-! DEFINITION. The housekeeping commands NOP, RESET, CLRSEC, CLRKEY, CLRMSG (40_host_port.md R121 to R125) and the
illegal command (30_encoding.md R95). -/

namespace Sys2Proof.Machine

/-- NOP (R121): writes no state and no flag. -/
def execNop (s : State) : Host.Outcome State Fault Refusal := .next s

/-- RESET (R122): "exactly the hard reset of R330 issued by the host". -/
def execReset (s : State) : Host.Outcome State Fault Refusal := .next s.hardReset

/-- CLRSEC (R123): `SEC <- []`. -/
def execClrsec (s : State) : Host.Outcome State Fault Refusal := .next { s with sec := [] }

/-- CLRKEY (R124): `KEY <- []`, `KBLK <- rep(0x00, 64)`. No other hidden register holds a key byte: ACC and NB are zero
between commands (`State.discardBits`), and after a command that reads KEY, WS and A to E come from the outer block that
holds the inner digest (43_hmac.md R229). -/
def execClrkey (s : State) : Host.Outcome State Fault Refusal :=
  .next { s with key := [], kblk := Vector.replicate 64 0x00 }

/-- CLRMSG (R125): `MSG <- []`. -/
def execClrmsg (s : State) : Host.Outcome State Fault Refusal := .next { s with msg := [] }

/-- An illegal command (R95): the effect of R304. The word itself is not kept. (A word that is a
command makes an ill-formed term, which no transaction decodes to: log 18.) -/
def execIllcmd (_data : Word) (s : State) : Host.Outcome State Fault Refusal := .next (s.raise .illegalAccess)

end Sys2Proof.Machine
end

