-- ==== Sys2Proof/Machine/IllegalWrite.lean ====
section
/-! DEFINITION. Illegal writes: of a read-only register (40_host_port.md R152) and of a reserved register number (R153). Each has the
effect of 60_exceptions.md R304, whatever the data. -/

namespace Sys2Proof.Machine

/-- `wr STATUS` (R152). -/
def execWrStatus (_data : Word) (s : State) : Host.Outcome State Fault Refusal := .next (s.raise .illegalAccess)

/-- `wr SECLEN` (R152). -/
def execWrSeclen (_data : Word) (s : State) : Host.Outcome State Fault Refusal := .next (s.raise .illegalAccess)

/-- `wr KEYLEN` (R152). -/
def execWrKeylen (_data : Word) (s : State) : Host.Outcome State Fault Refusal := .next (s.raise .illegalAccess)

/-- `wr MSGLEN` (R152). -/
def execWrMsglen (_data : Word) (s : State) : Host.Outcome State Fault Refusal := .next (s.raise .illegalAccess)

/-- `wr SECRD` (R152). -/
def execWrSecrd (_data : Word) (s : State) : Host.Outcome State Fault Refusal := .next (s.raise .illegalAccess)

/-- `wr KEYRD` (R152). -/
def execWrKeyrd (_data : Word) (s : State) : Host.Outcome State Fault Refusal := .next (s.raise .illegalAccess)

/-- `wr MSGRD` (R152). -/
def execWrMsgrd (_data : Word) (s : State) : Host.Outcome State Fault Refusal := .next (s.raise .illegalAccess)

/-- `wr H0` (R152). -/
def execWrH0 (_data : Word) (s : State) : Host.Outcome State Fault Refusal := .next (s.raise .illegalAccess)

/-- `wr H1` (R152). -/
def execWrH1 (_data : Word) (s : State) : Host.Outcome State Fault Refusal := .next (s.raise .illegalAccess)

/-- `wr H2` (R152). -/
def execWrH2 (_data : Word) (s : State) : Host.Outcome State Fault Refusal := .next (s.raise .illegalAccess)

/-- `wr H3` (R152). -/
def execWrH3 (_data : Word) (s : State) : Host.Outcome State Fault Refusal := .next (s.raise .illegalAccess)

/-- `wr H4` (R152). -/
def execWrH4 (_data : Word) (s : State) : Host.Outcome State Fault Refusal := .next (s.raise .illegalAccess)

/-- `wr DIG0` (R152). -/
def execWrDig0 (_data : Word) (s : State) : Host.Outcome State Fault Refusal := .next (s.raise .illegalAccess)

/-- `wr DIG1` (R152). -/
def execWrDig1 (_data : Word) (s : State) : Host.Outcome State Fault Refusal := .next (s.raise .illegalAccess)

/-- `wr DIG2` (R152). -/
def execWrDig2 (_data : Word) (s : State) : Host.Outcome State Fault Refusal := .next (s.raise .illegalAccess)

/-- `wr DIG3` (R152). -/
def execWrDig3 (_data : Word) (s : State) : Host.Outcome State Fault Refusal := .next (s.raise .illegalAccess)

/-- `wr DIG4` (R152). -/
def execWrDig4 (_data : Word) (s : State) : Host.Outcome State Fault Refusal := .next (s.raise .illegalAccess)

/-- `wr OFFSET` (R152). -/
def execWrOffset (_data : Word) (s : State) : Host.Outcome State Fault Refusal := .next (s.raise .illegalAccess)

/-- `wr VALUE` (R152). -/
def execWrValue (_data : Word) (s : State) : Host.Outcome State Fault Refusal := .next (s.raise .illegalAccess)

/-- `wr CODE` (R152). -/
def execWrCode (_data : Word) (s : State) : Host.Outcome State Fault Refusal := .next (s.raise .illegalAccess)

/-- `wr CODEBCD` (R152). -/
def execWrCodebcd (_data : Word) (s : State) : Host.Outcome State Fault Refusal := .next (s.raise .illegalAccess)

/-- Write of reserved 0x0E (R153). -/
def execWrRsv0E (_data : Word) (s : State) : Host.Outcome State Fault Refusal := .next (s.raise .illegalAccess)

/-- Write of reserved 0x0F (R153). -/
def execWrRsv0F (_data : Word) (s : State) : Host.Outcome State Fault Refusal := .next (s.raise .illegalAccess)

/-- Write of reserved 0x15 (R153). -/
def execWrRsv15 (_data : Word) (s : State) : Host.Outcome State Fault Refusal := .next (s.raise .illegalAccess)

/-- Write of reserved 0x16 (R153). -/
def execWrRsv16 (_data : Word) (s : State) : Host.Outcome State Fault Refusal := .next (s.raise .illegalAccess)

/-- Write of reserved 0x17 (R153). -/
def execWrRsv17 (_data : Word) (s : State) : Host.Outcome State Fault Refusal := .next (s.raise .illegalAccess)

/-- Write of reserved 0x31 (R153). -/
def execWrRsv31 (_data : Word) (s : State) : Host.Outcome State Fault Refusal := .next (s.raise .illegalAccess)

/-- Write of reserved 0x32 (R153). -/
def execWrRsv32 (_data : Word) (s : State) : Host.Outcome State Fault Refusal := .next (s.raise .illegalAccess)

/-- Write of reserved 0x33 (R153). -/
def execWrRsv33 (_data : Word) (s : State) : Host.Outcome State Fault Refusal := .next (s.raise .illegalAccess)

/-- Write of reserved 0x34 (R153). -/
def execWrRsv34 (_data : Word) (s : State) : Host.Outcome State Fault Refusal := .next (s.raise .illegalAccess)

/-- Write of reserved 0x35 (R153). -/
def execWrRsv35 (_data : Word) (s : State) : Host.Outcome State Fault Refusal := .next (s.raise .illegalAccess)

/-- Write of reserved 0x36 (R153). -/
def execWrRsv36 (_data : Word) (s : State) : Host.Outcome State Fault Refusal := .next (s.raise .illegalAccess)

/-- Write of reserved 0x37 (R153). -/
def execWrRsv37 (_data : Word) (s : State) : Host.Outcome State Fault Refusal := .next (s.raise .illegalAccess)

/-- Write of reserved 0x38 (R153). -/
def execWrRsv38 (_data : Word) (s : State) : Host.Outcome State Fault Refusal := .next (s.raise .illegalAccess)

/-- Write of reserved 0x39 (R153). -/
def execWrRsv39 (_data : Word) (s : State) : Host.Outcome State Fault Refusal := .next (s.raise .illegalAccess)

/-- Write of reserved 0x3A (R153). -/
def execWrRsv3A (_data : Word) (s : State) : Host.Outcome State Fault Refusal := .next (s.raise .illegalAccess)

/-- Write of reserved 0x3B (R153). -/
def execWrRsv3B (_data : Word) (s : State) : Host.Outcome State Fault Refusal := .next (s.raise .illegalAccess)

/-- Write of reserved 0x3C (R153). -/
def execWrRsv3C (_data : Word) (s : State) : Host.Outcome State Fault Refusal := .next (s.raise .illegalAccess)

/-- Write of reserved 0x3D (R153). -/
def execWrRsv3D (_data : Word) (s : State) : Host.Outcome State Fault Refusal := .next (s.raise .illegalAccess)

/-- Write of reserved 0x3E (R153). -/
def execWrRsv3E (_data : Word) (s : State) : Host.Outcome State Fault Refusal := .next (s.raise .illegalAccess)

/-- Write of reserved 0x3F (R153). -/
def execWrRsv3F (_data : Word) (s : State) : Host.Outcome State Fault Refusal := .next (s.raise .illegalAccess)

end Sys2Proof.Machine
end

