-- ==== Sys2Proof/Machine/PortRead.lean ====
section
/-! DEFINITION. Register reads (40_host_port.md R133 to R149). No read changes any state of the block (R74),
and none looks at DV or CV: what a register holds while they are clear is read as it stands (R33, log 16). -/

namespace Sys2Proof.Machine

/-- The word a read of `DIGk` returns (R144, 20_memory.md R66). -/
def digestWord (dig : Vector Byte 20) (k : Fin 5) : Word :=
  be32 dig[4 * k.val] dig[4 * k.val + 1] dig[4 * k.val + 2] dig[4 * k.val + 3]

/-- `rd STATUS` (R133): the six flags. -/
def execRdStatus (s : State) : Host.Outcome State Fault Refusal := .next (s.answer s.statusWord)

/-- `rd TIMELO` (R134): `TIME[31:0]`. -/
def execRdTimelo (s : State) : Host.Outcome State Fault Refusal := .next (s.answer (timeLo s.time))

/-- `rd TIMEHI` (R135): `TIME[63:32]`. -/
def execRdTimehi (s : State) : Host.Outcome State Fault Refusal := .next (s.answer (timeHi s.time))

/-- `rd BUFIDX` (R136): `BUFIDX`. -/
def execRdBufidx (s : State) : Host.Outcome State Fault Refusal := .next (s.answer s.bufidx)

/-- `rd SECLEN` (R137): `SECLEN`. -/
def execRdSeclen (s : State) : Host.Outcome State Fault Refusal := .next (s.answer (lengthWord s.sec))

/-- `rd KEYLEN` (R138): `KEYLEN`. -/
def execRdKeylen (s : State) : Host.Outcome State Fault Refusal := .next (s.answer (lengthWord s.key))

/-- `rd MSGLEN` (R139): `MSGLEN`. -/
def execRdMsglen (s : State) : Host.Outcome State Fault Refusal := .next (s.answer (lengthWord s.msg))

/-- `rd SECRD` (R140): `SEC[BUFIDX]`, or 0x80000000. -/
def execRdSecrd (s : State) : Host.Outcome State Fault Refusal := .next (s.answer (readBack s.sec s.bufidx))

/-- `rd KEYRD` (R141): `KEY[BUFIDX]`, or 0x80000000. -/
def execRdKeyrd (s : State) : Host.Outcome State Fault Refusal := .next (s.answer (readBack s.key s.bufidx))

/-- `rd MSGRD` (R142): `MSG[BUFIDX]`, or 0x80000000. -/
def execRdMsgrd (s : State) : Host.Outcome State Fault Refusal := .next (s.answer (readBack s.msg s.bufidx))

/-- `rd H0` (R143): `H[0]`. -/
def execRdH0 (s : State) : Host.Outcome State Fault Refusal := .next (s.answer s.h[0])

/-- `rd H1` (R143): `H[1]`. -/
def execRdH1 (s : State) : Host.Outcome State Fault Refusal := .next (s.answer s.h[1])

/-- `rd H2` (R143): `H[2]`. -/
def execRdH2 (s : State) : Host.Outcome State Fault Refusal := .next (s.answer s.h[2])

/-- `rd H3` (R143): `H[3]`. -/
def execRdH3 (s : State) : Host.Outcome State Fault Refusal := .next (s.answer s.h[3])

/-- `rd H4` (R143): `H[4]`. -/
def execRdH4 (s : State) : Host.Outcome State Fault Refusal := .next (s.answer s.h[4])

/-- `rd DIG0` (R144): `BE32` of `DIG[0..4]`. -/
def execRdDig0 (s : State) : Host.Outcome State Fault Refusal := .next (s.answer (digestWord s.dig 0))

/-- `rd DIG1` (R144): `BE32` of `DIG[4..8]`. -/
def execRdDig1 (s : State) : Host.Outcome State Fault Refusal := .next (s.answer (digestWord s.dig 1))

/-- `rd DIG2` (R144): `BE32` of `DIG[8..12]`. -/
def execRdDig2 (s : State) : Host.Outcome State Fault Refusal := .next (s.answer (digestWord s.dig 2))

/-- `rd DIG3` (R144): `BE32` of `DIG[12..16]`. -/
def execRdDig3 (s : State) : Host.Outcome State Fault Refusal := .next (s.answer (digestWord s.dig 3))

/-- `rd DIG4` (R144): `BE32` of `DIG[16..20]`. -/
def execRdDig4 (s : State) : Host.Outcome State Fault Refusal := .next (s.answer (digestWord s.dig 4))

/-- `rd OFFSET` (R145): `zext_32(OFFSET)`. -/
def execRdOffset (s : State) : Host.Outcome State Fault Refusal := .next (s.answer (zext32 s.offset))

/-- `rd VALUE` (R146): `zext_32(VALUE)`. -/
def execRdValue (s : State) : Host.Outcome State Fault Refusal := .next (s.answer (zext32 s.value))

/-- `rd CODE` (R147): `zext_32(CODE)`. -/
def execRdCode (s : State) : Host.Outcome State Fault Refusal := .next (s.answer (zext32 s.code))

/-- `rd CODEBCD` (R148): `zext_32(CODEBCD)`. -/
def execRdCodebcd (s : State) : Host.Outcome State Fault Refusal := .next (s.answer (zext32 s.codebcd))

/-- `rd Wi` (R149): `W[i]`. -/
def execRdW (i : Fin 16) (s : State) : Host.Outcome State Fault Refusal := .next (s.answer s.w[i])

end Sys2Proof.Machine
end

