-- ==== Sys2Proof/Machine/PortWrite.lean ====
section
/-! DEFINITION. Register writes that store or append (40_host_port.md R126 to R132). -/

namespace Sys2Proof.Machine

/-- `wr TIMELO` (R126): `TIME <- TIME[63:32] · 2^32 + v`. -/
def execWrTimelo (data : Word) (s : State) : Host.Outcome State Fault Refusal := .next { s with time := setTimeLo s.time data }

/-- `wr TIMEHI` (R127): `TIME <- v · 2^32 + TIME[31:0]`. -/
def execWrTimehi (data : Word) (s : State) : Host.Outcome State Fault Refusal := .next { s with time := setTimeHi s.time data }

/-- `wr SECPUSH` (R128): append the low byte to SEC, or flag OVF. -/
def execWrSecpush (data : Word) (s : State) : Host.Outcome State Fault Refusal := .next (s.pushSec (pushByte data))

/-- `wr KEYPUSH` (R129): append the low byte to KEY, or flag OVF. -/
def execWrKeypush (data : Word) (s : State) : Host.Outcome State Fault Refusal := .next (s.pushKey (pushByte data))

/-- `wr MSGPUSH` (R130): append the low byte to MSG, or flag OVF. -/
def execWrMsgpush (data : Word) (s : State) : Host.Outcome State Fault Refusal := .next (s.pushMsg (pushByte data))

/-- `wr BUFIDX` (R131): `BUFIDX <- v`. -/
def execWrBufidx (data : Word) (s : State) : Host.Outcome State Fault Refusal := .next { s with bufidx := data }

/-- `wr Wi` (R132): `W[i] <- v`. -/
def execWrW (i : Fin 16) (data : Word) (s : State) : Host.Outcome State Fault Refusal := .next { s with w := s.w.set i data }

end Sys2Proof.Machine
end

