-- ==== Sys2Proof/Machine/Base32.lean ====
section
/-! DEFINITION. The Base32 decoder and its command B32DEC (41_base32.md R160 to R170): the streaming form the hardware
runs (R165), and beside it the form by bit string (R162 to R164), which R165 says is the same function. -/

namespace Sys2Proof.Machine

/-- The 5-bit value of a symbol, none outside the alphabet (R161, R162); no case folding (R168). -/
def symbolValue (c : Byte) : Option (BitVec 5) :=
  if 0x41 ≤ c.toNat ∧ c.toNat ≤ 0x5A then some (BitVec.ofNat 5 (c.toNat - 0x41))
  else if 0x32 ≤ c.toNat ∧ c.toNat ≤ 0x37 then some (BitVec.ofNat 5 (c.toNat - 0x32 + 26))
  else none

/-! ### Streaming form (P165) -/

/-- The registers of P165 and the bytes it has emitted. -/
structure B32State where
  acc : BitVec 12
  nb : Nat
  out : List Byte
deriving DecidableEq, Repr

/-- P165 before the first symbol. -/
def b32start : B32State := ⟨0, 0, []⟩

/-- P165 takes in a 5-bit value: `ACC <- ((ACC << 5) | v) mod 2^12`, `NB <- NB + 5`, and a byte is emitted when eight
bits are there. -/
def b32absorb (st : B32State) (v : BitVec 5) : B32State :=
  let acc := (st.acc <<< 5) ||| v.setWidth 12
  let nb := st.nb + 5
  if 8 ≤ nb then ⟨acc, nb - 8, st.out ++ [(acc >>> (nb - 8)).setWidth 8]⟩ else ⟨acc, nb, st.out⟩

/-- One turn of P165's loop: a symbol with no value is skipped (R162). -/
def b32symbol (st : B32State) (c : Byte) : B32State :=
  match symbolValue c with
  | some v => b32absorb st v
  | none => st

/-- P165 over all symbols. -/
@[irreducible] def b32run (s : List Byte) : B32State := s.foldl b32symbol b32start

/-- `b32decode(s)` (R160): the bytes P165 returns; the bits left over are discarded. -/
def b32decode (s : List Byte) : List Byte := (b32run s).out

/-! ### The form by bit string -/

/-- `a(s)` as values: those of the alphabet symbols, in order (R162). -/
def alphabetValues (s : List Byte) : List (BitVec 5) := s.filterMap symbolValue

/-- `k`, the number of alphabet symbols (R162). -/
def alphabetCount (s : List Byte) : Nat := (alphabetValues s).length

/-- A 5-bit group, most significant bit first (R163). -/
def groupBits (v : BitVec 5) : List Bool := [v[4], v[3], v[2], v[1], v[0]]

/-- `bits(s)`: the groups one after the other (R163). -/
def symbolBits (s : List Byte) : List Bool := (alphabetValues s).flatMap groupBits

/-- The value of bits, the first the most significant. -/
def bitsValue (bs : List Bool) : Nat := bs.foldl (fun n b => 2 * n + b.toNat) 0

/-- `floor(len/8)` bytes, byte `j` from the bits `8j` to `8j + 7`, the first of them its bit 7; what is left over is
dropped (R164). -/
def bytesOfBits (bs : List Bool) : List Byte :=
  (List.range (bs.length / 8)).map fun j => BitVec.ofNat 8 (bitsValue ((bs.drop (8 * j)).take 8))

/-- `b32decode(s)` by R162 to R164. -/
@[irreducible] def b32decodeByBits (s : List Byte) : List Byte := bytesOfBits (symbolBits s)

/-! ### The command -/

/-- ACC and NB are "discarded at its end" (10_state.md R36): both are zero once a decode is done (log 4), so that they
keep no bits of the key (40_host_port.md R124). -/
def State.discardBits (s : State) : State := { s with hid := { s.hid with acc := 0, nb := 0 } }

/-- `MemWrite(KEY, b32decode(SEC))` (R169), and the bits left over discarded. -/
def State.decodeSecret (s : State) : State := { s with key := b32decode s.sec }.discardBits

/-- B32DEC (R169). -/
def execB32dec (s : State) : Host.Outcome State Fault Refusal := .next s.decodeSecret

end Sys2Proof.Machine
end

