-- ==== Sys2Proof/Machine/Sha.lean ====
section
/-! DEFINITION. The SHA-1 compression engine, the padding unit and their commands SHINIT, SHBLK, SHA1 (42_sha1.md R180 to
R198). -/

namespace Sys2Proof.Machine

/-! ### Compression of one block -/

/-- The initial chaining value (R181). -/
def iv : Vector Word 5 := #v[0x67452301, 0xEFCDAB89, 0x98BADCFE, 0x10325476, 0xC3D2E1F0]

/-- The first `16 + n` schedule words (R184): `WS[j] = rotl32(WS[j−3] xor WS[j−8] xor WS[j−14] xor WS[j−16], 1)`, at
`j = 16 + n`. -/
def schedulePrefix (w : Vector Word 16) : (n : Nat) → Vector Word (16 + n)
  | 0 => w
  | n + 1 =>
    let ws := schedulePrefix w n
    ws.push (rotl32 (ws[n + 13] ^^^ ws[n + 8] ^^^ ws[n + 2] ^^^ ws[n]) 1)

/-- WS[0..79] (R184). -/
@[irreducible] def schedule (w : Vector Word 16) : Vector Word 80 := schedulePrefix w 64

/-- The round function `f(t, b, c, d)` (R185). -/
def roundFunction (t : Nat) (b c d : Word) : Word :=
  if t < 20 then (b &&& c) ||| (not32 b &&& d)
  else if t < 40 then b ^^^ c ^^^ d
  else if t < 60 then (b &&& c) ||| (b &&& d) ||| (c &&& d)
  else b ^^^ c ^^^ d

/-- The round constant `K(t)` (R186). -/
def roundConstant (t : Nat) : Word :=
  if t < 20 then 0x5A827999 else if t < 40 then 0x6ED9EBA1 else if t < 60 then 0x8F1BBCDC else 0xCA62C1D6

/-- Round `t` with the schedule word `wt` (R187); every right side uses the values from before the round. -/
def roundStep (t : Nat) (wt : Word) (r : Regs) : Regs where
  a := add32 (add32 (add32 (add32 (rotl32 r.a 5) (roundFunction t r.b r.c r.d)) r.e) (roundConstant t)) wt
  b := r.a
  c := rotl32 r.b 30
  d := r.c
  e := r.d

/-- The working registers after the first `n` rounds, in order (R188 step 3). -/
def rounds (ws : Vector Word 80) (r : Regs) : (n : Nat) → n ≤ 80 → Regs
  | 0, _ => r
  | n + 1, hn => roundStep n ws[n] (rounds ws r n (Nat.le_of_succ_le hn))

/-- `(A, B, C, D, E) <- (H[0], H[1], H[2], H[3], H[4])` (R188 step 2). -/
def regsOfChain (h : Vector Word 5) : Regs := ⟨h[0], h[1], h[2], h[3], h[4]⟩

/-- The working registers after round 79 (R188). -/
@[irreducible] def roundsOfBlock (h : Vector Word 5) (w : Vector Word 16) : Regs := rounds (schedule w) (regsOfChain h) 80 (Nat.le_refl 80)

/-- The feed-forward addition (R188 step 4). -/
def feedForward (h : Vector Word 5) (r : Regs) : Vector Word 5 :=
  #v[add32 h[0] r.a, add32 h[1] r.b, add32 h[2] r.c, add32 h[3] r.d, add32 h[4] r.e]

/-- `compress(Hin, W)` (R188). -/
@[irreducible] def compress (h : Vector Word 5) (w : Vector Word 16) : Vector Word 5 := feedForward h (roundsOfBlock h w)

/-! ### The schedule with sixteen words (R197) -/

/-- Step `t` of the circular form (R197): before round `t ≥ 16`, `S[t mod 16]` is replaced. -/
def circularStep (buf : Vector Word 16) (t : Nat) : Vector Word 16 :=
  if t < 16 then buf
  else
    buf.set (t % 16)
      (rotl32 (buf[(t - 3) % 16]'(Nat.mod_lt _ (by decide)) ^^^ buf[(t - 8) % 16]'(Nat.mod_lt _ (by decide)) ^^^
        buf[(t - 14) % 16]'(Nat.mod_lt _ (by decide)) ^^^ buf[t % 16]'(Nat.mod_lt _ (by decide))) 1)
      (Nat.mod_lt _ (by decide))

/-- The buffer before the first `t` rounds have been done, that is, after the steps 0 to `t − 1`. -/
def circularBuffer (w : Vector Word 16) : Nat → Vector Word 16
  | 0 => w
  | t + 1 => circularStep (circularBuffer w t) t

/-- The word R197 uses as `WS[t]`: `S[t mod 16]` once step `t` is done. -/
def circularWord (w : Vector Word 16) (t : Nat) : Word :=
  (circularBuffer w (t + 1))[t % 16]'(Nat.mod_lt _ (by decide))

/-! ### Padding -/

/-- The length field: the bit length `8·L` (R190), a free value where it does not fit 64 bits (R192, log 6). -/
def lengthField (len : Nat) : BitVec 64 :=
  if 8 * len < 2 ^ 64 then BitVec.ofNat 64 (8 * len) else Config.longLengthField len

/-- `z = (55 − L) mod 64` (R190). -/
def padZeros (len : Nat) : Nat := (119 - len % 64) % 64

/-- `pad(M)` (R190). -/
@[irreducible] def pad (m : List Byte) : List Byte := m ++ [0x80] ++ rep 0x00 (padZeros m.length) ++ be64 (lengthField m.length)

/-- The padded message in 64-byte blocks, block `q` being `pad(M)[64q .. 64q+64]` (R193). -/
@[irreducible] def blocks (m : List Byte) : List (List Byte) :=
  (List.range ((pad m).length / 64)).map fun q => ((pad m).drop (64 * q)).take 64

/-- A 64-byte block as sixteen big-endian words (R183). -/
@[irreducible] def wordsOfBlock (blk : List Byte) : Vector Word 16 :=
  Vector.ofFn fun i : Fin 16 =>
    be32 (blk.getD (4 * i) 0) (blk.getD (4 * i + 1) 0) (blk.getD (4 * i + 2) 0) (blk.getD (4 * i + 3) 0)

/-! ### The hash -/

/-- The final chaining value of `sha1(M)` (R193). -/
@[irreducible] def sha1Chain (m : List Byte) : Vector Word 5 := (blocks m).foldl (fun h blk => compress h (wordsOfBlock blk)) iv

/-- `digest(Hc)` (R194): byte `4k + m` is `Hc[k][31−8m : 24−8m]`. -/
@[irreducible] def digest (h : Vector Word 5) : Vector Byte 20 :=
  Vector.ofFn fun i : Fin 20 => byteOfWord (h[i.val / 4]'(by omega)) (i % 4)

/-- `sha1(M)` (R193). -/
def sha1 (m : List Byte) : Vector Byte 20 := digest (sha1Chain m)

/-- The words of the last block of `pad(M)`, what W holds after a hash of M (R196). -/
@[irreducible] def lastBlockWords (m : List Byte) : Vector Word 16 := wordsOfBlock ((blocks m).getLastD [])

/-! ### The engine -/

/-- H takes the initial chaining value (R182). -/
def State.shinit (s : State) : State := { s with h := iv }

/-- W takes the words of a block (R183), and the sequencer moves on to it (R37). -/
def State.loadBlock (blk : List Byte) (s : State) : State :=
  { s with w := wordsOfBlock blk, hid := { s.hid with phase := { s.hid.phase with block := s.hid.phase.block + 1 } } }

/-- `H <- compress(H, W)` (R189). WS, A to E and T are left as R184, R187 and R188 leave them (log 4). -/
def State.shblk (s : State) : State :=
  { s with
    h := compress s.h s.w
    hid := { s.hid with ws := schedule s.w, regs := roundsOfBlock s.h s.w, t := 80 } }

/-- A whole hash on the engine (R195): SHINIT, then each block of the padded message into W and SHBLK. -/
def State.hashMessage (m : List Byte) (s : State) : State :=
  (blocks m).foldl (fun s blk => (s.loadBlock blk).shblk) s.shinit

/-- `DIG <- digest(H)` (R195). -/
def State.storeDigest (s : State) : State := { s with dig := digest s.h }

/-! ### The commands -/

/-- SHINIT (R182). -/
def execShinit (s : State) : Host.Outcome State Fault Refusal := .next s.shinit

/-- SHBLK (R189). -/
def execShblk (s : State) : Host.Outcome State Fault Refusal := .next s.shblk

/-- SHA1 (R195, R196). -/
def execSha1 (s : State) : Host.Outcome State Fault Refusal :=
  .next ((s.enter .hash).hashMessage s.msg).storeDigest.flagDv.finish

end Sys2Proof.Machine
end

