-- ==== Sys2Proof/Machine/Hmac.lean ====
section
/-! DEFINITION. The HMAC-SHA1 generator and its command HMAC (43_hmac.md R220 to R230). -/

namespace Sys2Proof.Machine

/-! ### The function -/

/-- `K1` (R221): a key longer than 64 bytes is replaced by its SHA-1 digest. -/
def shortKey (key : List Byte) : List Byte := if 64 < key.length then (sha1 key).toList else key

/-- `K1 || rep(0x00, 64 − len(K1))` (R222), for a `K1` of at most 64 bytes. -/
@[irreducible] def zeroPad64 (k1 : List Byte) : Vector Byte 64 := Vector.ofFn fun i : Fin 64 => k1.getD i 0

/-- The key block `K0` (R222). -/
@[irreducible] def keyBlock (key : List Byte) : Vector Byte 64 := zeroPad64 (shortKey key)

/-- `ipad`: the key block xored with 0x36 in all 64 bytes (R223). -/
@[irreducible] def ipad (k0 : Vector Byte 64) : List Byte := k0.toList.map (· ^^^ 0x36)

/-- `opad`: the key block xored with 0x5C in all 64 bytes (R223). -/
@[irreducible] def opad (k0 : Vector Byte 64) : List Byte := k0.toList.map (· ^^^ 0x5C)

/-- `sha1(ipad || message)` (R224). -/
@[irreducible] def innerDigest (key msg : List Byte) : Vector Byte 20 := sha1 (ipad (keyBlock key) ++ msg)

/-- `opad || inner`, the message of the outer hash (R224), 84 bytes. -/
@[irreducible] def outerMessage (key msg : List Byte) : List Byte := opad (keyBlock key) ++ (innerDigest key msg).toList

/-- `hmac(key, message)` (R224). -/
@[irreducible] def hmac (key msg : List Byte) : Vector Byte 20 := sha1 (outerMessage key msg)

/-! ### The command -/

/-- Phase KEYHASH of P226, and KBLK: the key hashed on the engine only when it is longer than 64 bytes. -/
def State.loadKeyBlock (s : State) : State :=
  if 64 < s.key.length then
    let s1 := (s.enter .keyHash).hashMessage s.key
    { s1 with kblk := zeroPad64 (digest s1.h).toList }
  else { s with kblk := zeroPad64 s.key }

/-- Phase INNER of P226. The inner digest is kept in DIG until the outer hash is done, as R227 allows (log 19). -/
def State.innerHash (s : State) : State := ((s.enter .inner).hashMessage (ipad s.kblk ++ s.msg)).storeDigest

/-- Phase OUTER of P226. -/
def State.outerHash (s : State) : State := ((s.enter .outer).hashMessage (opad s.kblk ++ s.dig.toList)).storeDigest

/-- The three phases of P226, in the order of R227. -/
def State.runHmac (s : State) : State := s.loadKeyBlock.innerHash.outerHash.flagDv

/-- HMAC (R226). -/
def execHmac (s : State) : Host.Outcome State Fault Refusal := .next s.runHmac.finish

end Sys2Proof.Machine
end

