-- ==== Sys2Proof/Machine/Totp.lean ====
section
/-! DEFINITION. The time step, dynamic truncation and their commands TSTEP, TRUNC, TOTP (44_totp_truncation.md R240 to
R257). -/

namespace Sys2Proof.Machine

/-! ### The functions -/

/-- `counterBytes = be64(TIME div 30)` (R241). -/
@[irreducible] def counterBytes (time : BitVec 64) : List Byte := be64 (BitVec.ofNat 64 (time.toNat / 30))

/-- OFFSET (R243): `DIG[19][3:0]`. -/
def truncOffset (dig : Vector Byte 20) : BitVec 4 := dig[19].extractLsb' 0 4

/-- VALUE (R244): `BE32(DIG[o] and 0x7F, DIG[o+1], DIG[o+2], DIG[o+3])`, whose bit 31 is zero, in 31 bits. -/
def sliceValue (dig : Vector Byte 20) (o : BitVec 4) : BitVec 31 :=
  (be32 (dig[o.toNat] &&& 0x7F) dig[o.toNat + 1] dig[o.toNat + 2] dig[o.toNat + 3]).extractLsb' 0 31

/-- VALUE of a digest at its own offset (R243, R244). -/
def truncValue (dig : Vector Byte 20) : BitVec 31 := sliceValue dig (truncOffset dig)

/-- CODE (R245): `VALUE mod 1000000`. -/
def truncCode (value : BitVec 31) : BitVec 20 := BitVec.ofNat 20 (value.toNat % 1000000)

/-- `d_i = (CODE div 10^i) mod 10` (R246). -/
def codeDigit (code : BitVec 20) (i : Nat) : Nat := code.toNat / 10 ^ i % 10

/-- CODEBCD (R246): `d_5·2^20 + d_4·2^16 + d_3·2^12 + d_2·2^8 + d_1·2^4 + d_0`. -/
def codeToBcd (code : BitVec 20) : BitVec 24 :=
  BitVec.ofNat 24
    (codeDigit code 5 * 2 ^ 20 + codeDigit code 4 * 2 ^ 16 + codeDigit code 3 * 2 ^ 12 +
      codeDigit code 2 * 2 ^ 8 + codeDigit code 1 * 2 ^ 4 + codeDigit code 0)

/-- The 6-digit string (R246): `d_5` to `d_0` as the ASCII codes `0x30 + d`, leading zeros kept. -/
def codeString (code : BitVec 20) : List Byte :=
  [5, 4, 3, 2, 1, 0].map fun i => BitVec.ofNat 8 (0x30 + codeDigit code i)

/-! ### The operations -/

/-- `MemWrite(MSG, be64(TIME div 30))` (R242). -/
def State.timeStep (s : State) : State := { s with msg := counterBytes s.time }

/-- OFFSET, VALUE, CODE and CODEBCD of DIG (R247). -/
def State.truncate (s : State) : State :=
  let v := truncValue s.dig
  { s with offset := truncOffset s.dig, value := v, code := truncCode v, codebcd := codeToBcd (truncCode v) }

/-- The success outcome of P250, after the decode. -/
def State.totpCode (s : State) : State :=
  ((s.enter .timeStep).timeStep.runHmac.enter .truncation).truncate.flagCode

/-- P250. The empty-secret test comes before the empty-key test (60_exceptions.md R311). -/
def State.runTotp (s : State) : State :=
  let s1 := (s.enter .decode).decodeSecret
  if s1.sec.length = 0 then s1.raise .noSecret
  else if s1.key.length = 0 then s1.raise .invalidSecret
  else s1.totpCode

/-! ### The commands -/

/-- TSTEP (R242). -/
def execTstep (s : State) : Host.Outcome State Fault Refusal := .next s.timeStep

/-- TRUNC (R247). -/
def execTrunc (s : State) : Host.Outcome State Fault Refusal := .next s.truncate.cvFromDv

/-- TOTP (R250 to R252). -/
def execTotp (s : State) : Host.Outcome State Fault Refusal := .next s.runTotp.finish

end Sys2Proof.Machine
end

