-- ==== Sys2Proof/Machine/Dispatch.lean ====
section
/-! DEFINITION. The meaning of each instruction, one arm per constructor. -/

namespace Sys2Proof.Machine

/-- What a decoded transaction does to the machine. -/
def exec (i : Instr) (s : State) : Host.Outcome State Fault Refusal :=
  match i with
  | .nop => Sys2Proof.Machine.execNop s
  | .reset => Sys2Proof.Machine.execReset s
  | .clrsec => Sys2Proof.Machine.execClrsec s
  | .clrkey => Sys2Proof.Machine.execClrkey s
  | .clrmsg => Sys2Proof.Machine.execClrmsg s
  | .b32dec => Sys2Proof.Machine.execB32dec s
  | .shinit => Sys2Proof.Machine.execShinit s
  | .shblk => Sys2Proof.Machine.execShblk s
  | .sha1 => Sys2Proof.Machine.execSha1 s
  | .hmac => Sys2Proof.Machine.execHmac s
  | .tstep => Sys2Proof.Machine.execTstep s
  | .trunc => Sys2Proof.Machine.execTrunc s
  | .totp => Sys2Proof.Machine.execTotp s
  | .illcmd data => Sys2Proof.Machine.execIllcmd data s
  | .wrTimelo data => Sys2Proof.Machine.execWrTimelo data s
  | .wrTimehi data => Sys2Proof.Machine.execWrTimehi data s
  | .wrSecpush data => Sys2Proof.Machine.execWrSecpush data s
  | .wrKeypush data => Sys2Proof.Machine.execWrKeypush data s
  | .wrMsgpush data => Sys2Proof.Machine.execWrMsgpush data s
  | .wrBufidx data => Sys2Proof.Machine.execWrBufidx data s
  | .wrW k data => Sys2Proof.Machine.execWrW k data s
  | .wrStatus data => Sys2Proof.Machine.execWrStatus data s
  | .wrSeclen data => Sys2Proof.Machine.execWrSeclen data s
  | .wrKeylen data => Sys2Proof.Machine.execWrKeylen data s
  | .wrMsglen data => Sys2Proof.Machine.execWrMsglen data s
  | .wrSecrd data => Sys2Proof.Machine.execWrSecrd data s
  | .wrKeyrd data => Sys2Proof.Machine.execWrKeyrd data s
  | .wrMsgrd data => Sys2Proof.Machine.execWrMsgrd data s
  | .wrH0 data => Sys2Proof.Machine.execWrH0 data s
  | .wrH1 data => Sys2Proof.Machine.execWrH1 data s
  | .wrH2 data => Sys2Proof.Machine.execWrH2 data s
  | .wrH3 data => Sys2Proof.Machine.execWrH3 data s
  | .wrH4 data => Sys2Proof.Machine.execWrH4 data s
  | .wrDig0 data => Sys2Proof.Machine.execWrDig0 data s
  | .wrDig1 data => Sys2Proof.Machine.execWrDig1 data s
  | .wrDig2 data => Sys2Proof.Machine.execWrDig2 data s
  | .wrDig3 data => Sys2Proof.Machine.execWrDig3 data s
  | .wrDig4 data => Sys2Proof.Machine.execWrDig4 data s
  | .wrOffset data => Sys2Proof.Machine.execWrOffset data s
  | .wrValue data => Sys2Proof.Machine.execWrValue data s
  | .wrCode data => Sys2Proof.Machine.execWrCode data s
  | .wrCodebcd data => Sys2Proof.Machine.execWrCodebcd data s
  | .wrRsv0E data => Sys2Proof.Machine.execWrRsv0E data s
  | .wrRsv0F data => Sys2Proof.Machine.execWrRsv0F data s
  | .wrRsv15 data => Sys2Proof.Machine.execWrRsv15 data s
  | .wrRsv16 data => Sys2Proof.Machine.execWrRsv16 data s
  | .wrRsv17 data => Sys2Proof.Machine.execWrRsv17 data s
  | .wrRsv31 data => Sys2Proof.Machine.execWrRsv31 data s
  | .wrRsv32 data => Sys2Proof.Machine.execWrRsv32 data s
  | .wrRsv33 data => Sys2Proof.Machine.execWrRsv33 data s
  | .wrRsv34 data => Sys2Proof.Machine.execWrRsv34 data s
  | .wrRsv35 data => Sys2Proof.Machine.execWrRsv35 data s
  | .wrRsv36 data => Sys2Proof.Machine.execWrRsv36 data s
  | .wrRsv37 data => Sys2Proof.Machine.execWrRsv37 data s
  | .wrRsv38 data => Sys2Proof.Machine.execWrRsv38 data s
  | .wrRsv39 data => Sys2Proof.Machine.execWrRsv39 data s
  | .wrRsv3A data => Sys2Proof.Machine.execWrRsv3A data s
  | .wrRsv3B data => Sys2Proof.Machine.execWrRsv3B data s
  | .wrRsv3C data => Sys2Proof.Machine.execWrRsv3C data s
  | .wrRsv3D data => Sys2Proof.Machine.execWrRsv3D data s
  | .wrRsv3E data => Sys2Proof.Machine.execWrRsv3E data s
  | .wrRsv3F data => Sys2Proof.Machine.execWrRsv3F data s
  | .rdStatus => Sys2Proof.Machine.execRdStatus s
  | .rdTimelo => Sys2Proof.Machine.execRdTimelo s
  | .rdTimehi => Sys2Proof.Machine.execRdTimehi s
  | .rdBufidx => Sys2Proof.Machine.execRdBufidx s
  | .rdSeclen => Sys2Proof.Machine.execRdSeclen s
  | .rdKeylen => Sys2Proof.Machine.execRdKeylen s
  | .rdMsglen => Sys2Proof.Machine.execRdMsglen s
  | .rdSecrd => Sys2Proof.Machine.execRdSecrd s
  | .rdKeyrd => Sys2Proof.Machine.execRdKeyrd s
  | .rdMsgrd => Sys2Proof.Machine.execRdMsgrd s
  | .rdH0 => Sys2Proof.Machine.execRdH0 s
  | .rdH1 => Sys2Proof.Machine.execRdH1 s
  | .rdH2 => Sys2Proof.Machine.execRdH2 s
  | .rdH3 => Sys2Proof.Machine.execRdH3 s
  | .rdH4 => Sys2Proof.Machine.execRdH4 s
  | .rdDig0 => Sys2Proof.Machine.execRdDig0 s
  | .rdDig1 => Sys2Proof.Machine.execRdDig1 s
  | .rdDig2 => Sys2Proof.Machine.execRdDig2 s
  | .rdDig3 => Sys2Proof.Machine.execRdDig3 s
  | .rdDig4 => Sys2Proof.Machine.execRdDig4 s
  | .rdOffset => Sys2Proof.Machine.execRdOffset s
  | .rdValue => Sys2Proof.Machine.execRdValue s
  | .rdCode => Sys2Proof.Machine.execRdCode s
  | .rdCodebcd => Sys2Proof.Machine.execRdCodebcd s
  | .rdW k => Sys2Proof.Machine.execRdW k s
  | .rdCmd => Sys2Proof.Machine.execRdCmd s
  | .rdSecpush => Sys2Proof.Machine.execRdSecpush s
  | .rdKeypush => Sys2Proof.Machine.execRdKeypush s
  | .rdMsgpush => Sys2Proof.Machine.execRdMsgpush s
  | .rdRsv0E => Sys2Proof.Machine.execRdRsv0E s
  | .rdRsv0F => Sys2Proof.Machine.execRdRsv0F s
  | .rdRsv15 => Sys2Proof.Machine.execRdRsv15 s
  | .rdRsv16 => Sys2Proof.Machine.execRdRsv16 s
  | .rdRsv17 => Sys2Proof.Machine.execRdRsv17 s
  | .rdRsv31 => Sys2Proof.Machine.execRdRsv31 s
  | .rdRsv32 => Sys2Proof.Machine.execRdRsv32 s
  | .rdRsv33 => Sys2Proof.Machine.execRdRsv33 s
  | .rdRsv34 => Sys2Proof.Machine.execRdRsv34 s
  | .rdRsv35 => Sys2Proof.Machine.execRdRsv35 s
  | .rdRsv36 => Sys2Proof.Machine.execRdRsv36 s
  | .rdRsv37 => Sys2Proof.Machine.execRdRsv37 s
  | .rdRsv38 => Sys2Proof.Machine.execRdRsv38 s
  | .rdRsv39 => Sys2Proof.Machine.execRdRsv39 s
  | .rdRsv3A => Sys2Proof.Machine.execRdRsv3A s
  | .rdRsv3B => Sys2Proof.Machine.execRdRsv3B s
  | .rdRsv3C => Sys2Proof.Machine.execRdRsv3C s
  | .rdRsv3D => Sys2Proof.Machine.execRdRsv3D s
  | .rdRsv3E => Sys2Proof.Machine.execRdRsv3E s
  | .rdRsv3F => Sys2Proof.Machine.execRdRsv3F s

end Sys2Proof.Machine
end

