-- ==== Sys2Proof/Machine/Step.lean ====
section
/-! DEFINITION. One step: the next thing the host does at the port, as one atomic transition (20_memory.md R72, R81). -/

namespace Sys2Proof.Machine

/-- A step takes up what the host does next: a register access is decoded and executed to its end (R72, R120), a hard
reset resets the block (R330). When the host does nothing the block "is idle and holds its state" (R314, log 9). -/
def step (s : State) : Host.Outcome State Fault Refusal :=
  match s.takeEvent with
  | none => .next s
  | some (.access x, s') => exec (decode x) s'
  | some (.hardReset, s') => .next s'.hardReset

/-- `s` with the host about to present a word of the opcode table, so that the next step runs it (log 1). -/
def State.withFetchWord (s : State) (nbits w : Nat) : State := s.presentTableWord nbits w

end Sys2Proof.Machine
end

