-- ==== Sys2Proof/Machine/Script.lean ====
section
/-! DEFINITION. The host's side of the port: the host-script notation and its pseudo-instructions (30_encoding.md R98,
R99), and the running of a script. -/

namespace Sys2Proof.Machine

/-- `cmd`, `wr` and `rd` lines (R98): the access of an instruction. -/
def access (i : Instr) : PortEvent := .access (encode i)

/-- The script of a list of instructions. -/
def script (is : List Instr) : List PortEvent := is.map access

/-- `time <t>` (R99). -/
def scriptTime (t : BitVec 64) : List Instr := [.wrTimelo (timeLo t), .wrTimehi (timeHi t)]

/-- The word a push of the byte `b` writes. -/
def pushData (b : Byte) : Word := b.setWidth 32

/-- `sec "<chars>"` (R99), with the characters as their 8-bit codes. -/
def scriptSec (chars : List Byte) : List Instr := .clrsec :: chars.map fun c => .wrSecpush (pushData c)

/-- `key <hex bytes>` (R99). -/
def scriptKey (bytes : List Byte) : List Instr := .clrkey :: bytes.map fun b => .wrKeypush (pushData b)

/-- `msg <hex bytes>` and `msg "<chars>"` (R99). -/
def scriptMsg (bytes : List Byte) : List Instr := .clrmsg :: bytes.map fun b => .wrMsgpush (pushData b)

/-- `block <w0> ... <w15>` (R99). -/
def scriptBlock (w : Vector Word 16) : List Instr := (List.finRange 16).map fun i => .wrW i w[i]

/-- `digest` (R99). -/
def scriptDigest : List Instr := [.rdDig0, .rdDig1, .rdDig2, .rdDig3, .rdDig4]

/-- `state` (R99). -/
def scriptState : List Instr := [.rdH0, .rdH1, .rdH2, .rdH3, .rdH4]

/-- Block-by-block hashing by the host (70_reset_and_hazards.md R333 d): SHINIT, then for each block the sixteen W writes
and SHBLK; the host does the padding. -/
def scriptHash (m : List Byte) : List Instr :=
  .shinit :: (blocks m).flatMap fun blk => scriptBlock (wordsOfBlock blk) ++ [.shblk]

/-- One thing after another, stopping where the first stops. -/
def andThen {σ τ : Type} (o : Host.Outcome σ Fault Refusal) (f : σ → Host.Outcome τ Fault Refusal) :
    Host.Outcome τ Fault Refusal :=
  match o with
  | .next s => f s
  | .fault r => .fault r
  | .refused r => .refused r

/-- The host does one thing at the port, before anything else it has pending (log 1), and the block's transition is complete (20_memory.md R72). -/
def deliver (e : PortEvent) (s : State) : Host.Outcome State Fault Refusal := step (s.present e)

/-- "Lines execute top to bottom, each an atomic transition" (R98). -/
def runScript : List PortEvent → State → Host.Outcome State Fault Refusal
  | [], s => .next s
  | e :: es, s => andThen (deliver e s) fun s' => runScript es s'

/-- A script given by its instructions. -/
def runInstrs (is : List Instr) (s : State) : Host.Outcome State Fault Refusal := runScript (script is) s

end Sys2Proof.Machine
end

