-- ==== Sys2Proof/Machine/Scheduler.lean ====
section
/-! DEFINITION. The host's Scheduler (45_scheduler_host.md R270 to R282): a contract of the host, not part of the block
(00_scope.md R5), so its state stands beside the block's, in `System`. What the spec leaves to the host is log 12. -/

namespace Sys2Proof.Machine

/-! ### The secret as the user types it -/

/-- Whitespace: the codes 0x09 to 0x0D and 0x20 (R271). -/
def isWhitespace (c : Nat) : Bool := (0x09 ≤ c && c ≤ 0x0D) || c == 0x20

/-- Upper-casing: the codes 0x61 to 0x7A minus 0x20, other codes unchanged (R271). -/
def upperCase (c : Nat) : Nat := if 0x61 ≤ c ∧ c ≤ 0x7A then c - 0x20 else c

/-- The symbol pushed for a character: its code, or 0x00 where it does not fit 8 bits (R271). -/
def symbolOfChar (c : Nat) : Byte := if c < 256 then BitVec.ofNat 8 c else 0x00

/-- Normalisation: "remove every whitespace character, then replace every lower-case letter by its upper-case form"
(R271). A text is a list of character codes. -/
def normalise (text : List Nat) : List Byte :=
  (text.filter fun c => !isWhitespace c).map fun c => symbolOfChar (upperCase c)

/-! ### What is published -/

/-- `secondsRemaining = 30 − (unixSeconds mod 30)` (R275). -/
def secondsRemaining (now : BitVec 64) : Nat := 30 - now.toNat % 30

/-- The code string read from CODEBCD digit by digit, most significant first (10_state.md R32, R246). -/
def bcdString (bcd : Word) : List Byte := [5, 4, 3, 2, 1, 0].map fun i => 0x30 + (bcd.extractLsb' (4 * i) 4).setWidth 8

/-- One publication of the host (R273, R274, R280). That the error signal goes out alone, with no seconds remaining
beside it, is the model's choice: R274 and R280 say only that it stands "instead of a code" (log 12). -/
inductive Publication where
  /-- A code and the seconds remaining. -/
  | code (digits : List Byte) (secondsRemaining : Nat)
  /-- The error signal. -/
  | invalidSecret
  /-- The neutral empty state. -/
  | neutral
deriving DecidableEq, Repr

/-! ### The Scheduler -/

/-- "Idle (no secret set) and Active (ticking)" (R270). -/
inductive Mode where
  | idle
  | active
deriving DecidableEq, Repr

/-- The Scheduler's state (R270): its mode, whether its timer is armed, and what it has published, oldest first. -/
structure Scheduler where
  mode : Mode
  timer : Bool
  published : List Publication
deriving DecidableEq, Repr

/-- "The host starts in Idle" (R270). -/
def Scheduler.start : Scheduler := ⟨.idle, false, []⟩

/-- Block and host together. -/
structure System where
  sched : Scheduler
  block : State
deriving DecidableEq, Repr

/-- What reaches the Scheduler: an edit of the secret or a timer tick, each with the wall clock's `unixSeconds(now)`
(R281), or an explicit stop (R273). -/
inductive HostInput where
  | edit (text : List Nat) (now : BitVec 64)
  | stop
  | tick (now : BitVec 64)
deriving DecidableEq, Repr

/-- The host publishes. -/
def System.publish (p : Publication) (y : System) : System :=
  { y with sched := { y.sched with published := y.sched.published ++ [p] } }

/-- The host runs a script at the port. -/
def System.run (is : List Instr) (y : System) : Host.Outcome System Fault Refusal :=
  andThen (runInstrs is y.block) fun s => .next { y with block := s }

/-- The word the last read returned. -/
def System.lastAnswer (y : System) : Word := y.block.answers.getLastD 0

/-- What the host makes of the STATUS a tick has read (R274): with CV = 1 it reads CODEBCD and publishes the code, with
ERR = 1 it publishes the error signal, without the seconds remaining (log 12). -/
def System.publishOutcome (now : BitVec 64) (y : System) : Host.Outcome System Fault Refusal :=
  if y.lastAnswer[1] then
    andThen (y.run [.rdCodebcd]) fun y' =>
      .next (y'.publish (.code (bcdString y'.lastAnswer) (secondsRemaining now)))
  else if y.lastAnswer[2] then .next (y.publish .invalidSecret)
  else .next y

/-- One tick (R274): `time unixSeconds(now)`, `cmd TOTP`, `rd STATUS`, and the publication. -/
def System.tickNow (now : BitVec 64) (y : System) : Host.Outcome System Fault Refusal :=
  andThen (y.run (scriptTime now ++ [.totp, .rdStatus])) (System.publishOutcome now)

/-- Idle to Active with a non-empty secret (R272), and the replacement of the secret while Active (R277): the timer is
cancelled, the whole secret is pushed, the first tick follows at once, and the timer is started. -/
def System.activate (secret : List Byte) (now : BitVec 64) (y : System) : Host.Outcome System Fault Refusal :=
  andThen ({ y with sched := { y.sched with mode := .active, timer := false } }.run (scriptSec secret)) fun y1 =>
    andThen (y1.tickNow now) fun y2 => .next { y2 with sched := { y2.sched with timer := true } }

/-- Active to Idle (R273): the timer is cancelled (R278), SEC and KEY are cleared, the neutral state is published. In Idle
there is nothing to do. -/
def System.deactivate (y : System) : Host.Outcome System Fault Refusal :=
  match y.sched.mode with
  | .idle => .next y
  | .active =>
    andThen ({ y with sched := { y.sched with mode := .idle, timer := false } }.run [.clrsec, .clrkey]) fun y1 =>
      .next (y1.publish .neutral)

/-- The Scheduler's reaction to an input (R272 to R278). Every edit with a non-empty normalised secret is taken as a
replacement while Active, also one that leaves the normalised secret as it is: whether R277 means that one the spec does
not say (log 12). A tick of a timer that is not armed does nothing: "stopping the
scheduler must cancel any pending timer so no further ticks fire after Idle is entered" (R278). -/
def System.react (i : HostInput) (y : System) : Host.Outcome System Fault Refusal :=
  match i with
  | .edit text now => if normalise text = [] then y.deactivate else y.activate (normalise text) now
  | .stop => y.deactivate
  | .tick now => if y.sched.timer then y.tickNow now else .next y

end Sys2Proof.Machine
end

