-- ==== Sys2Proof/Safety.lean ====
section
/-! DEFINITION. What counts as a safe state, and the invariant of the machine. -/

namespace Sys2Proof.Machine

/-- No sticky fault of the host program is recorded: "A model should treat ILL = 1 as a fault of the host program"
(60_exceptions.md R304), and the same of OVF (R305). A claim about a host script takes this as a premise (log 11). -/
abbrev State.Safe (s : State) : Prop := s.ill = false ∧ s.ovf = false

/-- The code registers agree with one another: CODE and CODEBCD are those of VALUE (44_totp_truncation.md R245 to R247). -/
abbrev State.CodeAgrees (s : State) : Prop := s.code = truncCode s.value ∧ s.codebcd = codeToBcd s.code

/-- The flags agree: CV is never set without DV, and ERR and NOSEC never together (10_state.md R33). -/
abbrev State.FlagsAgree (s : State) : Prop := (s.cv = true → s.dv = true) ∧ ¬(s.err = true ∧ s.nosec = true)

/-- What every step keeps: a configuration R9 allows, buffers within their capacities (R27 to R29), code registers and
flags that agree, an idle sequencer between accesses (R37), and ACC and NB zero between accesses: R36 says only
that they are discarded, and that this leaves them zero is the model's (DEDUCED, log 4). -/
structure State.Inv (s : State) : Prop where
  cfg : s.cfg.ok
  memory : Memory.wf s
  code : s.CodeAgrees
  flags : s.FlagsAgree
  idle : s.hid.phase = Phase.idle
  drained : s.hid.acc = 0 ∧ s.hid.nb = 0

end Sys2Proof.Machine
end

