-- ==== Sys2Proof/Certificates/Slice0/Obligations.lean ====
section
/-! DEFINITION. The statements for the provers, family by family. In a statement about a command of the SHA engine the
hidden registers it uses (10_state.md R24, R25, R36, R37; log 4) are some `g : Hidden`, of which only the registers the
command does not use are fixed. Everything else of the state is fixed by the record update. -/

namespace Sys2Proof.Machine

/-! ### Words and lists the statements name -/

/-- The writes of read-only registers (40_host_port.md R152). -/
def readOnlyWrites (data : Word) : List Instr :=
  [
    .wrStatus data, .wrSeclen data, .wrKeylen data, .wrMsglen data, .wrSecrd data, .wrKeyrd data, .wrMsgrd data,
    .wrH0 data, .wrH1 data, .wrH2 data, .wrH3 data, .wrH4 data, .wrDig0 data, .wrDig1 data, .wrDig2 data,
    .wrDig3 data, .wrDig4 data, .wrOffset data, .wrValue data, .wrCode data, .wrCodebcd data]

/-- The writes of reserved register numbers (R153). -/
def reservedWrites (data : Word) : List Instr :=
  [
    .wrRsv0E data, .wrRsv0F data, .wrRsv15 data, .wrRsv16 data, .wrRsv17 data, .wrRsv31 data, .wrRsv32 data,
    .wrRsv33 data, .wrRsv34 data, .wrRsv35 data, .wrRsv36 data, .wrRsv37 data, .wrRsv38 data, .wrRsv39 data,
    .wrRsv3A data, .wrRsv3B data, .wrRsv3C data, .wrRsv3D data, .wrRsv3E data, .wrRsv3F data]

/-- The reads of write-only registers (R150). -/
def writeOnlyReads : List Instr :=
  [
    .rdCmd, .rdSecpush, .rdKeypush, .rdMsgpush]

/-- The reads of reserved register numbers (R151). -/
def reservedReads : List Instr :=
  [
    .rdRsv0E, .rdRsv0F, .rdRsv15, .rdRsv16, .rdRsv17, .rdRsv31, .rdRsv32, .rdRsv33, .rdRsv34, .rdRsv35, .rdRsv36,
    .rdRsv37, .rdRsv38, .rdRsv39, .rdRsv3A, .rdRsv3B, .rdRsv3C, .rdRsv3D, .rdRsv3E, .rdRsv3F]

/-- The instruction is an illegal access: an illegal command or an illegal write (60_exceptions.md R304). -/
def Illegal (i : Instr) : Prop :=
  ∃ data, i = .illcmd data ∨ i ∈ readOnlyWrites data ∨ i ∈ reservedWrites data

/-- The instruction is a push (R128 to R130). -/
def Push (i : Instr) : Prop := ∃ data, i = .wrSecpush data ∨ i = .wrKeypush data ∨ i = .wrMsgpush data

/-- Every piece of state of the block has the value of the table of R39. -/
def AtResetValues (s : State) : Prop :=
  (∀ i : Fin 5, s.h[i] = 0) ∧ (∀ i : Fin 16, s.w[i] = 0) ∧ (∀ i : Fin 20, s.dig[i] = 0) ∧
  s.sec = [] ∧ s.key = [] ∧ s.msg = [] ∧ s.bufidx = 0 ∧ s.time = 0 ∧
  s.offset = 0 ∧ s.value = 0 ∧ s.code = 0 ∧ s.codebcd = 0 ∧
  s.dv = false ∧ s.cv = false ∧ s.err = false ∧ s.nosec = false ∧ s.ill = false ∧ s.ovf = false ∧
  (∀ i : Fin 64, s.kblk[i] = 0) ∧ (∀ i : Fin 80, s.hid.ws[i] = 0) ∧ s.hid.regs = ⟨0, 0, 0, 0, 0⟩ ∧
  s.hid.t = 0 ∧ s.hid.acc = 0 ∧ s.hid.nb = 0 ∧ s.hid.phase = Phase.idle

/-- Two states agree on all that TOTP writes (44_totp_truncation.md R250), but for the flag DV. -/
structure SameTotp (t u : State) : Prop where
  key : t.key = u.key
  msg : t.msg = u.msg
  kblk : t.kblk = u.kblk
  h : t.h = u.h
  w : t.w = u.w
  dig : t.dig = u.dig
  offset : t.offset = u.offset
  value : t.value = u.value
  code : t.code = u.code
  codebcd : t.codebcd = u.codebcd

end Sys2Proof.Machine

open Sys2Proof Sys2Proof.Machine

/-! ### Encoding -/

/-- One word of each family, written out from the listings of 95_test_vectors.md (sections 2.6 and 3), decodes to the
instruction beside it. -/
def Obligations.SampleWordsDecode : Prop :=
  decode 0x4000000022 = .sha1 ∧ decode 0x4000000042 = .totp ∧ decode 0x4000000010 = .b32dec ∧
  decode 0x4000000122 = .illcmd 0x122 ∧ decode 0x42A817C800 = .wrTimelo 0xA817C800 ∧
  decode 0x44FFFFFF4D = .wrSecpush 0xFFFFFF4D ∧ decode 0x65DEADBEEF = .wrW 5 0xDEADBEEF ∧
  decode 0x5067452301 = .wrH0 0x67452301 ∧ decode 0x4E00000007 = .wrRsv0E 7 ∧
  decode 0x0100000000 = .rdStatus ∧ decode 0x2F00000000 = .rdW 15 ∧ decode 0x3000000000 = .rdCodebcd ∧
  decode 0x0000000000 = .rdCmd ∧ decode 0x3F00000000 = .rdRsv3F

/-- Decoding the encoding of a well-formed instruction gives it back, with every operand. -/
def Obligations.DecodeEncodeRoundTrip : Prop :=
  ∀ i : Instr, i.wellFormed = true → decode (encode i) = i

/-- Every 39-bit word decodes to a well-formed instruction, whose encoding is the word, less the data field of a read,
which decoding ignores (R90) and the encoder writes as zero (log 17). -/
def Obligations.EncodeDecodeWord : Prop :=
  ∀ x : Transaction, (decode x).wellFormed = true ∧
    encode (decode x) = if x.wr = 1 then x else x &&& 0x7F00000000

/-- The dispatch of R120 on the number `v` written to CMD, and the effect of an illegal command. -/
def Obligations.CommandDispatch : Prop :=
  ∀ (v : Word) (s : State), exec (decode (.mk 1 0x00 v)) s =
    if v.toNat / 2 ^ 8 ≠ 0 then .next { s with ill := true }
    else if v.toNat % 2 ^ 8 = 0x00 then exec .nop s
    else if v.toNat % 2 ^ 8 = 0x01 then exec .reset s
    else if v.toNat % 2 ^ 8 = 0x02 then exec .clrsec s
    else if v.toNat % 2 ^ 8 = 0x03 then exec .clrkey s
    else if v.toNat % 2 ^ 8 = 0x04 then exec .clrmsg s
    else if v.toNat % 2 ^ 8 = 0x10 then exec .b32dec s
    else if v.toNat % 2 ^ 8 = 0x20 then exec .shinit s
    else if v.toNat % 2 ^ 8 = 0x21 then exec .shblk s
    else if v.toNat % 2 ^ 8 = 0x22 then exec .sha1 s
    else if v.toNat % 2 ^ 8 = 0x30 then exec .hmac s
    else if v.toNat % 2 ^ 8 = 0x40 then exec .tstep s
    else if v.toNat % 2 ^ 8 = 0x41 then exec .trunc s
    else if v.toNat % 2 ^ 8 = 0x42 then exec .totp s
    else .next { s with ill := true }

/-! ### Steps, reset, and the invariant -/

/-- A step whose next event is an access runs the decoded instruction, in the state with that event taken (R72, log 1). -/
def Obligations.StepRunsDecodedAccess : Prop :=
  ∀ (s : State) (x : Transaction) (rest : List PortEvent) (i : Instr),
    s.pending = .access x :: rest → decode x = i → step s = exec i { s with pending := rest }

/-- With nothing pending a step leaves the state as it is (R314, log 9). -/
def Obligations.IdleStepHoldsState : Prop :=
  ∀ s : State, s.pending = [] → step s = .next s

/-- The table of R39, field by field, of the state the machine starts in, and of the state after the RESET command and
after a hard reset, from any state. -/
def Obligations.ResetValues : Prop :=
  AtResetValues State.reset ∧
  (∀ s : State, ∃ t : State, exec .reset s = .next t ∧ AtResetValues t) ∧
  ∀ (s : State) (rest : List PortEvent), s.pending = .hardReset :: rest →
    ∃ t : State, step s = .next t ∧ AtResetValues t

/-- The RESET command and the assertion of the reset input have the same effect: the reset state, with the
configuration and the host's side of the port left alone, those being the model's fields (R122, R330, R331; log 1, 2, 3, 8). -/
def Obligations.ResetCommandEqualsHardReset : Prop :=
  ∀ (s : State) (rest : List PortEvent),
    exec .reset { s with pending := rest } =
      .next { State.reset with cfg := s.cfg, answers := s.answers, pending := rest } ∧
    step { s with pending := .hardReset :: rest } =
      .next { State.reset with cfg := s.cfg, answers := s.answers, pending := rest } ∧
    step { s with pending := .access (encode .reset) :: rest } = step { s with pending := .hardReset :: rest }

/-- Every step keeps the invariant, from every state that has it. That ACC and NB are zero between accesses, the field
`drained` of the invariant, is the model's (DEDUCED, log 4). -/
def Obligations.StepKeepsInv : Prop :=
  ∀ s t : State, s.Inv → step s = .next t → t.Inv

/-- The invariant holds at reset. -/
def Obligations.ResetHasInv : Prop := State.reset.Inv

/-- No step stops: every state has a next state (R300, R307). -/
def Obligations.EveryStepAnswersNext : Prop := ∀ s : State, ∃ t : State, step s = .next t

/-! ### Housekeeping commands -/

/-- NOP, CLRSEC, CLRKEY and CLRMSG: what they write, and nothing else (R121, R123, R124, R125). In a state of the
invariant CLRKEY leaves no bits of the key in the Base32 accumulator (R36): that
their discarding leaves ACC and NB zero is the model's (DEDUCED, log 4). -/
def Obligations.HousekeepingCommands : Prop :=
  ∀ s : State,
    exec .nop s = .next s ∧
    exec .clrsec s = .next { s with sec := [] } ∧
    (∃ k : Vector Byte 64, exec .clrkey s = .next { s with key := [], kblk := k } ∧ (∀ i : Fin 64, k[i] = 0) ∧
      ∀ t : State, s.Inv → exec .clrkey s = .next t → t.hid.acc = 0 ∧ t.hid.nb = 0) ∧
    exec .clrmsg s = .next { s with msg := [] }

/-! ### Register writes -/

/-- The two halves of TIME, as numbers (R126, R127). -/
def Obligations.TimeHalvesWritten : Prop :=
  ∀ (s : State) (v : Word),
    (∃ t : BitVec 64, exec (.wrTimelo v) s = .next { s with time := t } ∧
      t.toNat = s.time.toNat / 2 ^ 32 * 2 ^ 32 + v.toNat) ∧
    (∃ t : BitVec 64, exec (.wrTimehi v) s = .next { s with time := t } ∧
      t.toNat = v.toNat * 2 ^ 32 + s.time.toNat % 2 ^ 32)

/-- A push appends the low byte of the word when its buffer is not full, and else only flags OVF (R128, R129, R130). -/
def Obligations.PushAppendsOrOverflows : Prop :=
  ∀ (s : State) (v : Word), ∃ b : Byte, b.toNat = v.toNat % 2 ^ 8 ∧
    exec (.wrSecpush v) s =
      (if s.sec.length < s.cfg.secCap then .next { s with sec := s.sec ++ [b] } else .next { s with ovf := true }) ∧
    exec (.wrKeypush v) s =
      (if s.key.length < s.cfg.keyCap then .next { s with key := s.key ++ [b] } else .next { s with ovf := true }) ∧
    exec (.wrMsgpush v) s =
      (if s.msg.length < s.cfg.msgCap then .next { s with msg := s.msg ++ [b] } else .next { s with ovf := true })

/-- BUFIDX and the W registers store the whole word, and only the register named changes (R131, R132). -/
def Obligations.IndexAndBlockWordsWritten : Prop :=
  ∀ (s : State) (v : Word) (i : Fin 16),
    exec (.wrBufidx v) s = .next { s with bufidx := v } ∧
    ∃ w : Vector Word 16, exec (.wrW i v) s = .next { s with w := w } ∧ w[i] = v ∧
      ∀ j : Fin 16, j ≠ i → w[j] = s.w[j]

/-- The writes of read-only registers and of reserved numbers, and the illegal command, with any data that is no command
word, set ILL and change nothing else (R95, R152, R153, R304). -/
def Obligations.IllegalAccessesSetIllOnly : Prop :=
  ∀ (data : Word) (s : State) (i : Instr),
    (i = .illcmd data ∧ i.wellFormed = true) ∨ i ∈ readOnlyWrites data ∨ i ∈ reservedWrites data →
      exec i s = .next { s with ill := true }

/-! ### Register reads -/

/-- STATUS, TIMELO, TIMEHI and BUFIDX, as numbers (R133 to R136; the word returned goes to `answers`, log 2). -/
def Obligations.StatusTimeIndexRead : Prop :=
  ∀ s : State,
    (∃ v : Word, exec .rdStatus s = .next { s with answers := s.answers ++ [v] } ∧
      v.toNat = s.ovf.toNat * 32 + s.ill.toNat * 16 + s.nosec.toNat * 8 + s.err.toNat * 4 + s.cv.toNat * 2 +
        s.dv.toNat) ∧
    (∃ v : Word, exec .rdTimelo s = .next { s with answers := s.answers ++ [v] } ∧
      v.toNat = s.time.toNat % 2 ^ 32) ∧
    (∃ v : Word, exec .rdTimehi s = .next { s with answers := s.answers ++ [v] } ∧
      v.toNat = s.time.toNat / 2 ^ 32) ∧
    exec .rdBufidx s = .next { s with answers := s.answers ++ [s.bufidx] }

/-- The length registers return the lengths, in every state of the invariant (R137, R138, R139; log 2, 7). -/
def Obligations.LengthsRead : Prop :=
  ∀ s : State, s.Inv →
    (∃ v : Word, exec .rdSeclen s = .next { s with answers := s.answers ++ [v] } ∧ v.toNat = s.sec.length) ∧
    (∃ v : Word, exec .rdKeylen s = .next { s with answers := s.answers ++ [v] } ∧ v.toNat = s.key.length) ∧
    (∃ v : Word, exec .rdMsglen s = .next { s with answers := s.answers ++ [v] } ∧ v.toNat = s.msg.length)

/-- The read-back registers return the element at BUFIDX, or 0x80000000 past the end (R140, R141, R142; log 2). -/
def Obligations.ReadBackAtIndex : Prop :=
  ∀ s : State, ∃ a b c : Word,
    exec .rdSecrd s = .next { s with answers := s.answers ++ [a] } ∧
    exec .rdKeyrd s = .next { s with answers := s.answers ++ [b] } ∧
    exec .rdMsgrd s = .next { s with answers := s.answers ++ [c] } ∧
    (∀ h : s.bufidx.toNat < s.sec.length, a.toNat = (s.sec[s.bufidx.toNat]).toNat) ∧
    (s.sec.length ≤ s.bufidx.toNat → a.toNat = 0x80000000) ∧
    (∀ h : s.bufidx.toNat < s.key.length, b.toNat = (s.key[s.bufidx.toNat]).toNat) ∧
    (s.key.length ≤ s.bufidx.toNat → b.toNat = 0x80000000) ∧
    (∀ h : s.bufidx.toNat < s.msg.length, c.toNat = (s.msg[s.bufidx.toNat]).toNat) ∧
    (s.msg.length ≤ s.bufidx.toNat → c.toNat = 0x80000000)

/-- H0 to H4 and W0 to W15 return their words (R143, R149; log 2). -/
def Obligations.ChainAndBlockWordsRead : Prop :=
  ∀ s : State,
    exec .rdH0 s = .next { s with answers := s.answers ++ [s.h[0]] } ∧
    exec .rdH1 s = .next { s with answers := s.answers ++ [s.h[1]] } ∧
    exec .rdH2 s = .next { s with answers := s.answers ++ [s.h[2]] } ∧
    exec .rdH3 s = .next { s with answers := s.answers ++ [s.h[3]] } ∧
    exec .rdH4 s = .next { s with answers := s.answers ++ [s.h[4]] } ∧
    ∀ i : Fin 16, exec (.rdW i) s = .next { s with answers := s.answers ++ [s.w[i]] }

/-- DIG0 to DIG4 return four digest bytes each, the first the most significant (R144; log 2). -/
def Obligations.DigestWordsRead : Prop :=
  ∀ s : State, ∃ v : Fin 5 → Word,
    (∀ k : Fin 5, (v k).toNat =
      (s.dig[4 * k.val]).toNat * 2 ^ 24 + (s.dig[4 * k.val + 1]).toNat * 2 ^ 16 +
        (s.dig[4 * k.val + 2]).toNat * 2 ^ 8 + (s.dig[4 * k.val + 3]).toNat) ∧
    exec .rdDig0 s = .next { s with answers := s.answers ++ [v 0] } ∧
    exec .rdDig1 s = .next { s with answers := s.answers ++ [v 1] } ∧
    exec .rdDig2 s = .next { s with answers := s.answers ++ [v 2] } ∧
    exec .rdDig3 s = .next { s with answers := s.answers ++ [v 3] } ∧
    exec .rdDig4 s = .next { s with answers := s.answers ++ [v 4] }

/-- OFFSET, VALUE, CODE and CODEBCD are returned zero-extended, within their ranges; the range of CODE is one of the
invariant (R145 to R148; log 2). -/
def Obligations.CodeRegistersRead : Prop :=
  ∀ s : State, ∃ o v c b : Word,
    exec .rdOffset s = .next { s with answers := s.answers ++ [o] } ∧ o.toNat = s.offset.toNat ∧ o.toNat ≤ 15 ∧
    exec .rdValue s = .next { s with answers := s.answers ++ [v] } ∧ v.toNat = s.value.toNat ∧ v.toNat ≤ 2 ^ 31 - 1 ∧
    exec .rdCode s = .next { s with answers := s.answers ++ [c] } ∧ c.toNat = s.code.toNat ∧
    (s.Inv → c.toNat ≤ 999999) ∧
    exec .rdCodebcd s = .next { s with answers := s.answers ++ [b] } ∧ b.toNat = s.codebcd.toNat

/-- Reads of write-only registers and of reserved numbers return zero and change nothing (R150, R151; log 2). -/
def Obligations.EmptyReadsReturnZero : Prop :=
  ∀ (s : State) (i : Instr), i ∈ writeOnlyReads ∨ i ∈ reservedReads →
    exec i s = .next { s with answers := s.answers ++ [0] }

/-- No read has a side effect on the block, and the same read at once again returns the same value (R74; log 2). -/
def Obligations.ReadsLeaveBlockAlone : Prop :=
  ∀ (x : Transaction) (s : State), x.wr = 0 → ∃ v : Word,
    exec (decode x) s = .next { s with answers := s.answers ++ [v] } ∧
    exec (decode x) { s with answers := s.answers ++ [v] } =
      .next { s with answers := s.answers ++ [v] ++ [v] }

/-! ### Base32 -/

/-- The value of each symbol as a number, and none outside the alphabet (R161); the bit string of the alphabet symbols in
their order, each group most significant bit first (R163); and the bytes cut from it, the first bit of each its bit 7,
what is left over dropped (R164). -/
def Obligations.SymbolValuesAndBitString : Prop :=
  (∀ c : Byte,
    (0x41 ≤ c.toNat → c.toNat ≤ 0x5A → ∃ v : BitVec 5, symbolValue c = some v ∧ v.toNat = c.toNat - 0x41) ∧
    (0x32 ≤ c.toNat → c.toNat ≤ 0x37 → ∃ v : BitVec 5, symbolValue c = some v ∧ v.toNat = c.toNat - 0x32 + 26) ∧
    (¬(0x41 ≤ c.toNat ∧ c.toNat ≤ 0x5A) → ¬(0x32 ≤ c.toNat ∧ c.toNat ≤ 0x37) → symbolValue c = none)) ∧
  ∀ s : List Byte,
    alphabetValues s = s.filterMap symbolValue ∧ (symbolBits s).length = 5 * alphabetCount s ∧
    (∀ j i : Nat, j < alphabetCount s → i < 5 →
      (symbolBits s).getD (5 * j + i) false = ((alphabetValues s).getD j 0).getLsbD (4 - i)) ∧
    (b32decodeByBits s).length = 5 * alphabetCount s / 8 ∧
    ∀ j i : Nat, j < (b32decodeByBits s).length → i < 8 →
      ((b32decodeByBits s).getD j 0).getLsbD (7 - i) = (symbolBits s).getD (8 * j + i) false

/-- The streaming form is the form by bit string, and NB is 0 to 7 at its end (R165). -/
def Obligations.StreamingDecodeEqualsBitString : Prop :=
  ∀ s : List Byte, b32decode s = b32decodeByBits s ∧ (b32run s).nb ≤ 7

/-- The length of the decoded key, and the number of bits left over (R166). -/
def Obligations.DecodedLength : Prop :=
  ∀ s : List Byte, (b32decode s).length = 5 * alphabetCount s / 8 ∧ (b32run s).nb = 5 * alphabetCount s % 8

/-- A symbol outside `A` to `Z` and `2` to `7` is skipped wherever it stands (R162). -/
def Obligations.OtherSymbolsSkipped : Prop :=
  ∀ (a b : List Byte) (c : Byte),
    ¬(0x41 ≤ c.toNat ∧ c.toNat ≤ 0x5A) → ¬(0x32 ≤ c.toNat ∧ c.toNat ≤ 0x37) →
      b32decode (a ++ c :: b) = b32decode (a ++ b)

/-- For bytes of a bit length that is a multiple of 40 there is exactly one sequence of alphabet symbols, of eight for
every five bytes, that decodes to them: decoding inverts encoding there, whatever encoder was used (R170). -/
def Obligations.WholeGroupsDecodeOnto : Prop :=
  ∀ b : List Byte, 8 * b.length % 40 = 0 →
    ∃! s : List Byte, 5 * s.length = 8 * b.length ∧ alphabetCount s = s.length ∧ b32decode s = b

/-- B32DEC replaces KEY by the decode of SEC and changes nothing else (R169) but ACC and NB, which are discarded (R36):
that this leaves them zero is the model's (DEDUCED, log 4). -/
def Obligations.B32decReplacesKey : Prop :=
  ∀ s : State, ∃ (k : List Byte) (g : Hidden),
    exec .b32dec s = .next { s with key := k, hid := g } ∧
    k = b32decodeByBits s.sec ∧ k.length = 5 * alphabetCount s.sec / 8 ∧
    g.acc = 0 ∧ g.nb = 0 ∧
    g.ws = s.hid.ws ∧ g.regs = s.hid.regs ∧ g.t = s.hid.t ∧ g.phase = s.hid.phase

/-! ### SHA-1 -/

/-- SHINIT loads the initial chaining value and changes nothing else (R182). -/
def Obligations.ShinitLoadsInitialValue : Prop :=
  ∀ s : State,
    exec .shinit s = .next { s with h := #v[0x67452301, 0xEFCDAB89, 0x98BADCFE, 0x10325476, 0xC3D2E1F0] }

/-- SHBLK compresses the block in W into H, with W kept, and writes no flag and no other register but WS, A to E, T
(R188, R189). -/
def Obligations.ShblkCompresses : Prop :=
  ∀ s : State, ∃ (h : Vector Word 5) (g : Hidden),
    exec .shblk s = .next { s with h := h, hid := g } ∧
    (let r := rounds (schedule s.w) ⟨s.h[0], s.h[1], s.h[2], s.h[3], s.h[4]⟩ 80 (Nat.le_refl 80)
     h[0] = s.h[0] + r.a ∧ h[1] = s.h[1] + r.b ∧ h[2] = s.h[2] + r.c ∧ h[3] = s.h[3] + r.d ∧ h[4] = s.h[4] + r.e) ∧
    g.acc = s.hid.acc ∧ g.nb = s.hid.nb ∧ g.phase = s.hid.phase

/-- The round function and the round constant over the four ranges, bit by bit and as numbers (R185, R186), and the left
rotation they are used with (R11): bit `i` of `rotl32 x n` is bit `i − n`, modulo 32. -/
def Obligations.RoundFunctionAndConstant : Prop :=
  (∀ t : Nat,
    (t < 20 → roundConstant t = 0x5A827999) ∧ (20 ≤ t → t < 40 → roundConstant t = 0x6ED9EBA1) ∧
    (40 ≤ t → t < 60 → roundConstant t = 0x8F1BBCDC) ∧ (60 ≤ t → t < 80 → roundConstant t = 0xCA62C1D6)) ∧
  (∀ (t : Nat) (x y z : Word) (i : Fin 32),
    (t < 20 → (roundFunction t x y z)[i] = if x[i] then y[i] else z[i]) ∧
    (20 ≤ t → t < 40 → (roundFunction t x y z)[i].toNat = (x[i].toNat + y[i].toNat + z[i].toNat) % 2) ∧
    (40 ≤ t → t < 60 → (roundFunction t x y z)[i] = decide (2 ≤ x[i].toNat + y[i].toNat + z[i].toNat)) ∧
    (60 ≤ t → t < 80 → (roundFunction t x y z)[i].toNat = (x[i].toNat + y[i].toNat + z[i].toNat) % 2)) ∧
  ∀ (x : Word) (n i : Fin 32), (rotl32 x n)[i] = x[(i.val + 32 - n.val) % 32]'(Nat.mod_lt _ (by decide))

/-- The eighty rounds: none leaves the registers as they are, and round `n` takes the five registers after the rounds
before it to the five after it (R187); `compress` starts them from the chaining value and adds that to their result
(R188). -/
def Obligations.RoundsStepByStep : Prop :=
  (∀ (ws : Vector Word 80) (r : Regs), rounds ws r 0 (Nat.zero_le 80) = r ∧
    ∀ (n : Nat) (hn : n < 80),
      let p := rounds ws r n (Nat.le_of_lt hn)
      let q := rounds ws r (n + 1) hn
      q.a.toNat = ((rotl32 p.a 5).toNat + (roundFunction n p.b p.c p.d).toNat + p.e.toNat + (roundConstant n).toNat +
        ws[n].toNat) % 2 ^ 32 ∧
      q.b = p.a ∧ q.c = rotl32 p.b 30 ∧ q.d = p.c ∧ q.e = p.d) ∧
  ∀ (h : Vector Word 5) (w : Vector Word 16),
    let r := rounds (schedule w) ⟨h[0], h[1], h[2], h[3], h[4]⟩ 80 (Nat.le_refl 80)
    compress h w = #v[h[0] + r.a, h[1] + r.b, h[2] + r.c, h[3] + r.d, h[4] + r.e]

/-- The message schedule: the block's words, then the recurrence (R184). -/
def Obligations.ScheduleRecurrence : Prop :=
  ∀ w : Vector Word 16,
    (∀ (j : Nat) (hj : j < 16), (schedule w)[j] = w[j]) ∧
    (∀ (j : Nat) (hj : j < 80), 16 ≤ j → (schedule w)[j] =
      rotl32 ((schedule w)[j - 3] ^^^ (schedule w)[j - 8] ^^^ (schedule w)[j - 14] ^^^ (schedule w)[j - 16]) 1)

/-- The schedule with sixteen words in a circular buffer gives the same words (R197). -/
def Obligations.CircularScheduleAgrees : Prop :=
  ∀ (w : Vector Word 16) (t : Nat) (ht : t < 80), circularWord w t = (schedule w)[t]

/-- The shape of the padded message: its four parts, the least number of zero bytes, and a whole number of blocks
(R190, R191), for every length whose bit length fits 64 bits (R192). -/
def Obligations.PaddingShape : Prop :=
  ∀ m : List Byte, 8 * m.length < 2 ^ 64 → ∃ (z : Nat) (len : List Byte),
    pad m = m ++ [0x80] ++ List.replicate z 0x00 ++ len ∧
    (m.length + 1 + z) % 64 = 56 ∧ (∀ z' < z, (m.length + 1 + z') % 64 ≠ 56) ∧
    len.length = 8 ∧ (∀ i : Fin 8, (len.getD i 0).toNat = 8 * m.length / 2 ^ (56 - 8 * i.val) % 2 ^ 8) ∧
    (pad m).length = 64 * ((m.length + 8) / 64 + 1)

/-- The padded message cut into blocks and words: word `i` of block `q` is the big-endian value of the bytes `64q + 4i`
to `64q + 4i + 3` (R183, R193); the chaining value goes from the initial value through all blocks in order (R193), and
the last block is the last of them. -/
def Obligations.BlockWordsAndChain : Prop :=
  ∀ m : List Byte,
    64 * (blocks m).length = (pad m).length ∧
    (∀ (q : Nat) (hq : q < (blocks m).length) (i : Fin 16), (wordsOfBlock (blocks m)[q])[i].toNat =
      ((pad m).getD (64 * q + 4 * i.val) 0).toNat * 2 ^ 24 + ((pad m).getD (64 * q + 4 * i.val + 1) 0).toNat * 2 ^ 16 +
        ((pad m).getD (64 * q + 4 * i.val + 2) 0).toNat * 2 ^ 8 + ((pad m).getD (64 * q + 4 * i.val + 3) 0).toNat) ∧
    (∃ c : Nat → Vector Word 5, c 0 = #v[0x67452301, 0xEFCDAB89, 0x98BADCFE, 0x10325476, 0xC3D2E1F0] ∧
      (∀ (q : Nat) (hq : q < (blocks m).length), c (q + 1) = compress (c q) (wordsOfBlock (blocks m)[q])) ∧
      sha1Chain m = c (blocks m).length) ∧
    ∀ (q : Nat) (hq : q < (blocks m).length), q + 1 = (blocks m).length → lastBlockWords m = wordsOfBlock (blocks m)[q]

/-- SHA1: DIG, H and W after it, and nothing else changed but DV and the engine's hidden registers (R195, R196). -/
def Obligations.Sha1HashesMessage : Prop :=
  ∀ s : State, ∃ g : Hidden,
    exec .sha1 s = .next { s with
      h := sha1Chain s.msg
      w := lastBlockWords s.msg
      dig := digest (sha1Chain s.msg)
      dv := true
      hid := g } ∧
    sha1 s.msg = digest (sha1Chain s.msg) ∧
    (∀ k : Fin 5, digestWord (digest (sha1Chain s.msg)) k = (sha1Chain s.msg)[k]) ∧
    g.acc = s.hid.acc ∧ g.nb = s.hid.nb ∧ g.phase = Phase.idle

/-- SHA1 is SHINIT followed, for each block of the padded message, by loading W and SHBLK, then the digest of H: the
host, doing just that through the port, ends with the same H and W, and with the digest not stored (R195, R333). -/
def Obligations.BlockByBlockEqualsSha1 : Prop :=
  ∀ s : State, ∃ t u : State,
    runInstrs (scriptHash s.msg) s = .next t ∧ exec .sha1 s = .next u ∧
    t.h = u.h ∧ t.w = u.w ∧ u.dig = digest t.h ∧
    t = { s with h := t.h, w := t.w, hid := t.hid }

/-! ### HMAC -/

/-- The key block: keys of more than 64 bytes are hashed first, and zero bytes fill it up (R221, R222). -/
def Obligations.KeyBlockShape : Prop :=
  ∀ key : List Byte,
    (64 < key.length → (keyBlock key).toList = (sha1 key).toList ++ List.replicate 44 0x00) ∧
    (key.length ≤ 64 → (keyBlock key).toList = key ++ List.replicate (64 - key.length) 0x00)

/-- HMAC: DIG is the two nested hashes of R224 over the key block, with KBLK, H and W as R226 and R228 say, and nothing
else changed but DV and the engine's hidden registers. -/
def Obligations.HmacOfKeyAndMessage : Prop :=
  ∀ s : State, ∃ g : Hidden,
    (let k0 := keyBlock s.key
     let inner := sha1 (k0.toList.map (· ^^^ 0x36) ++ s.msg)
     let outer := k0.toList.map (· ^^^ 0x5C) ++ inner.toList
     exec .hmac s = .next { s with
       kblk := k0
       h := sha1Chain outer
       w := lastBlockWords outer
       dig := sha1 outer
       dv := true
       hid := g } ∧
     outerMessage s.key s.msg = outer ∧ hmac s.key s.msg = sha1 outer) ∧
    g.acc = s.hid.acc ∧ g.nb = s.hid.nb ∧ g.phase = Phase.idle

/-- The outer message has 84 bytes and pads to two blocks, the second being the inner digest, 0x80, 35 zero bytes and
the length 672; the inner message pads to `floor((72 + MSGLEN)/64) + 1` blocks, the first being `ipad`, and to two blocks for
a message of eight bytes, the second being that message, 0x80, 47 zero bytes and the length 576 (R229). -/
def Obligations.HmacBlockCounts : Prop :=
  ∀ key msg : List Byte,
    (outerMessage key msg).length = 84 ∧
    blocks (outerMessage key msg) =
      [opad (keyBlock key), (innerDigest key msg).toList ++ [0x80] ++ List.replicate 35 0x00 ++ be64 672] ∧
    (blocks (ipad (keyBlock key) ++ msg)).length = (72 + msg.length) / 64 + 1 ∧
    (blocks (ipad (keyBlock key) ++ msg)).head? = some (ipad (keyBlock key)) ∧
    (msg.length = 8 → blocks (ipad (keyBlock key) ++ msg) =
      [ipad (keyBlock key), msg ++ [0x80] ++ List.replicate 47 0x00 ++ be64 576])

/-! ### Time step, truncation, TOTP -/

/-- TSTEP replaces MSG by the eight counter bytes, most significant first, and changes nothing else (R242). -/
def Obligations.TstepWritesCounterBytes : Prop :=
  ∀ s : State, ∃ m : List Byte,
    exec .tstep s = .next { s with msg := m } ∧ m.length = 8 ∧
    ∀ i : Fin 8, (m.getD i 0).toNat = s.time.toNat / 30 / 2 ^ (56 - 8 * i.val) % 2 ^ 8

/-- TRUNC: OFFSET, VALUE, CODE and CODEBCD as numbers, CV from DV, and nothing else (R243 to R247). -/
def Obligations.TruncOfDigest : Prop :=
  ∀ s : State, ∃ (o : BitVec 4) (v : BitVec 31) (c : BitVec 20) (b : BitVec 24),
    exec .trunc s = .next { s with offset := o, value := v, code := c, codebcd := b, cv := s.dv } ∧
    o.toNat = (s.dig[19]).toNat % 2 ^ 4 ∧
    v.toNat = (s.dig[o.toNat]).toNat % 2 ^ 7 * 2 ^ 24 + (s.dig[o.toNat + 1]).toNat * 2 ^ 16 +
      (s.dig[o.toNat + 2]).toNat * 2 ^ 8 + (s.dig[o.toNat + 3]).toNat ∧
    c.toNat = v.toNat % 1000000 ∧
    b.toNat = c.toNat / 10 ^ 5 % 10 * 2 ^ 20 + c.toNat / 10 ^ 4 % 10 * 2 ^ 16 + c.toNat / 10 ^ 3 % 10 * 2 ^ 12 +
      c.toNat / 10 ^ 2 % 10 * 2 ^ 8 + c.toNat / 10 % 10 * 2 ^ 4 + c.toNat % 10

/-- The decimal form of a code: each 4-bit field of CODEBCD is a decimal digit, together they are the code, and the
string is those digits in ASCII, the most significant first, leading zeros kept (R246). -/
def Obligations.DecimalFormOfCode : Prop :=
  ∀ c : BitVec 20, c.toNat ≤ 999999 →
    (∀ i : Fin 6, ((codeToBcd c).extractLsb' (4 * i.val) 4).toNat = c.toNat / 10 ^ i.val % 10) ∧
    ((List.range 6).map fun i => ((codeToBcd c).extractLsb' (4 * i) 4).toNat * 10 ^ i).sum = c.toNat ∧
    codeString c = bcdString (zext32 (codeToBcd c)) ∧
    (∀ i : Fin 6, ((codeString c).getD (5 - i.val) 0).toNat = 0x30 + c.toNat / 10 ^ i.val % 10) ∧
    (codeString c).length = 6 ∧ ∀ d ∈ codeString c, 0x30 ≤ d.toNat ∧ d.toNat ≤ 0x39

/-- The slice is inside the digest and the last digest byte is no part of VALUE: only its low nibble, through OFFSET,
has an influence (R248). -/
def Obligations.LastDigestByteNotInValue : Prop :=
  ∀ (d : Vector Byte 20) (b : Byte), (truncOffset d).toNat + 3 ≤ 18 ∧
    (b.toNat % 2 ^ 4 = (d[19]).toNat % 2 ^ 4 → truncValue (d.set 19 b) = truncValue d)

/-- The three outcomes of TOTP, each with everything it writes (R250, R251, R252). ACC and NB are left zero: that their
discarding (R36) means this is the model's (DEDUCED, log 4). -/
def Obligations.TotpOutcomes : Prop :=
  ∀ s : State, ∃ g : Hidden, g.phase = Phase.idle ∧ g.acc = 0 ∧ g.nb = 0 ∧
    (s.sec = [] →
      exec .totp s = .next { s with key := [], nosec := true, err := false, cv := false, hid := g }) ∧
    (s.sec ≠ [] → b32decode s.sec = [] →
      exec .totp s = .next { s with key := [], nosec := false, err := true, cv := false, hid := g }) ∧
    (s.sec ≠ [] → b32decode s.sec ≠ [] →
      let key := b32decode s.sec
      let msg := counterBytes s.time
      let dig := hmac key msg
      exec .totp s = .next { s with
        key := key
        msg := msg
        kblk := keyBlock key
        h := sha1Chain (outerMessage key msg)
        w := lastBlockWords (outerMessage key msg)
        dig := dig
        offset := truncOffset dig
        value := truncValue dig
        code := truncCode (truncValue dig)
        codebcd := codeToBcd (truncCode (truncValue dig))
        dv := true
        cv := true
        err := false
        nosec := false
        hid := g })

/-- InvalidSecret is raised exactly by a non-empty secret with fewer than two alphabet symbols (R251, R301). -/
def Obligations.InvalidSecretCondition : Prop :=
  ∀ s t : State, exec .totp s = .next t →
    (t.err = true ↔ s.sec ≠ [] ∧ alphabetCount s.sec < 2)

/-- What a TOTP that finds a key writes depends on SEC and on the 30-second window of TIME alone, whatever else the two
states hold (R253, R254); and the outcome flags depend on SEC alone. -/
def Obligations.TotpDependsOnSecretAndWindow : Prop :=
  ∀ s1 s2 t1 t2 : State, s1.sec = s2.sec → s1.time.toNat / 30 = s2.time.toNat / 30 →
    exec .totp s1 = .next t1 → exec .totp s2 = .next t2 →
      t1.key = t2.key ∧ t1.cv = t2.cv ∧ t1.err = t2.err ∧ t1.nosec = t2.nosec ∧
      (t1.cv = true → SameTotp t1 t2 ∧ t1.dv = t2.dv)

/-- The cached-key form: with KEY the decode of SEC and not empty, TSTEP, HMAC and TRUNC through the port give what TOTP
gives, except that they leave ERR and NOSEC alone (R257). -/
def Obligations.CachedKeyFormEqualsTotp : Prop :=
  ∀ s : State, s.key = b32decode s.sec → s.key ≠ [] → ∃ t u : State,
    runInstrs [.tstep, .hmac, .trunc] s = .next t ∧ exec .totp s = .next u ∧
    t = { u with err := s.err, nosec := s.nosec, hid := t.hid }

/-! ### Rules over all instructions -/

/-- ILL and OVF are sticky: only RESET clears them (R304, R305, R310). -/
def Obligations.StickyFaultFlags : Prop :=
  ∀ (i : Instr) (s t : State), exec i s = .next t → i ≠ .reset →
    (s.ill = true → t.ill = true) ∧ (s.ovf = true → t.ovf = true)

/-- Which instructions may change which state, column by column of the table of R40 (RESET may change all of it);
no instruction changes the configuration or the host's events, the model's fields (log 1, 3). An illegal command counts
with any word, also that of a command (log 18). -/
def Obligations.WritersOfEachState : Prop :=
  ∀ (i : Instr) (s t : State), exec i s = .next t → i ≠ .reset →
    (t.sec ≠ s.sec → i = .clrsec ∨ ∃ v, i = .wrSecpush v) ∧
    (t.key ≠ s.key → i = .clrkey ∨ i = .b32dec ∨ i = .totp ∨ ∃ v, i = .wrKeypush v) ∧
    (t.msg ≠ s.msg → i = .clrmsg ∨ i = .tstep ∨ i = .totp ∨ ∃ v, i = .wrMsgpush v) ∧
    (t.time ≠ s.time → ∃ v, i = .wrTimelo v ∨ i = .wrTimehi v) ∧
    (t.bufidx ≠ s.bufidx → ∃ v, i = .wrBufidx v) ∧
    (t.w ≠ s.w → i = .sha1 ∨ i = .hmac ∨ i = .totp ∨ ∃ k v, i = .wrW k v) ∧
    (t.h ≠ s.h → i = .shinit ∨ i = .shblk ∨ i = .sha1 ∨ i = .hmac ∨ i = .totp) ∧
    (t.dig ≠ s.dig → i = .sha1 ∨ i = .hmac ∨ i = .totp) ∧
    (t.offset ≠ s.offset ∨ t.value ≠ s.value ∨ t.code ≠ s.code ∨ t.codebcd ≠ s.codebcd → i = .trunc ∨ i = .totp) ∧
    (t.dv ≠ s.dv → i = .sha1 ∨ i = .hmac ∨ i = .totp) ∧
    (t.cv ≠ s.cv → i = .trunc ∨ i = .totp) ∧
    (t.err ≠ s.err ∨ t.nosec ≠ s.nosec → i = .totp) ∧
    (t.ill ≠ s.ill → Illegal i) ∧
    (t.ovf ≠ s.ovf → Push i) ∧
    (t.kblk ≠ s.kblk → i = .clrkey ∨ i = .hmac ∨ i = .totp) ∧
    t.cfg = s.cfg ∧ t.pending = s.pending

/-! ### The host -/

/-- Loading the operands through the port (R99): each buffer holds what the script pushes when that fits, whatever it
held before; TIME and W hold what is written. Nothing else changes, but that `cmd CLRKEY` zeroes KBLK. -/
def Obligations.ScriptsLoadOperands : Prop :=
  ∀ (s : State) (bytes : List Byte) (t : BitVec 64) (w : Vector Word 16),
    (bytes.length ≤ s.cfg.secCap → runInstrs (scriptSec bytes) s = .next { s with sec := bytes }) ∧
    (bytes.length ≤ s.cfg.keyCap →
      runInstrs (scriptKey bytes) s = .next { s with key := bytes, kblk := Vector.replicate 64 0 }) ∧
    (bytes.length ≤ s.cfg.msgCap → runInstrs (scriptMsg bytes) s = .next { s with msg := bytes }) ∧
    runInstrs (scriptTime t) s = .next { s with time := t } ∧
    runInstrs (scriptBlock w) s = .next { s with w := w }

/-- Normalisation (R271), character by character and in order: whitespace goes, a lower-case letter becomes its
upper-case form, any other code below 256 stays and a wider one becomes 0x00. So no whitespace and no lower-case letter
remains, and normalising again changes nothing. -/
def Obligations.NormalisedSecret : Prop :=
  normalise [] = [] ∧ (∀ a b : List Nat, normalise (a ++ b) = normalise a ++ normalise b) ∧
  (∀ c : Nat,
    (c = 0x20 ∨ (0x09 ≤ c ∧ c ≤ 0x0D) → normalise [c] = []) ∧
    (¬(c = 0x20 ∨ (0x09 ≤ c ∧ c ≤ 0x0D)) → ∃ b : Byte, normalise [c] = [b] ∧
      (0x61 ≤ c ∧ c ≤ 0x7A → b.toNat + 0x20 = c) ∧
      (¬(0x61 ≤ c ∧ c ≤ 0x7A) → c < 256 → b.toNat = c) ∧
      (256 ≤ c → b.toNat = 0))) ∧
  ∀ text : List Nat,
    (∀ c ∈ normalise text, isWhitespace c.toNat = false ∧ ¬(0x61 ≤ c.toNat ∧ c.toNat ≤ 0x7A)) ∧
    normalise ((normalise text).map fun c => c.toNat) = normalise text

/-- `secondsRemaining` is in [1,30] at every time, the largest included; from one second to the next it falls by one, and
wraps to 30 exactly when a new window begins (R275, R276). -/
def Obligations.SecondsRemainingCountsDown : Prop :=
  (∀ t : BitVec 64, 1 ≤ secondsRemaining t ∧ secondsRemaining t ≤ 30 ∧
    (secondsRemaining t + t.toNat) % 30 = 0) ∧
  ∀ t u : BitVec 64, u.toNat = t.toNat + 1 →
    (u.toNat / 30 = t.toNat / 30 → secondsRemaining u + 1 = secondsRemaining t) ∧
    (u.toNat / 30 ≠ t.toNat / 30 ↔ secondsRemaining u = 30)

/-- A tick with a secret that gives a key publishes exactly one code, the six digits of the truncated HMAC of the key
and the counter of `now`, and leaves the secret loaded (R274, R280; that the host issues TOTP and reads CODEBCD is the model's choice, log 12). -/
def Obligations.TickPublishesCode : Prop :=
  ∀ (y : System) (now : BitVec 64), y.sched.timer = true → b32decode y.block.sec ≠ [] →
    ∃ y' : System, y.react (.tick now) = .next y' ∧
      y'.sched = { y.sched with published := y.sched.published ++
        [.code (codeString (truncCode (truncValue (hmac (b32decode y.block.sec) (counterBytes now)))))
          (secondsRemaining now)] } ∧
      y'.block.sec = y.block.sec ∧ y'.block.time = now

/-- A tick with a non-empty secret that gives no key publishes the error signal, and no code (R274, R301). That the signal
goes out without the seconds remaining, and that ERR is set in the block, every tick issuing TOTP and never the cached-key
form, are the model's choices (log 12). -/
def Obligations.TickPublishesInvalidSecret : Prop :=
  ∀ (y : System) (now : BitVec 64), y.sched.timer = true → y.block.sec ≠ [] → b32decode y.block.sec = [] →
    ∃ y' : System, y.react (.tick now) = .next y' ∧
      y'.sched = { y.sched with published := y.sched.published ++ [.invalidSecret] } ∧ y'.block.err = true

/-- A non-empty edit makes the Scheduler Active with SEC the normalised secret, its timer armed, and exactly one
publication more: the code of the window of `now` and the seconds remaining when the secret gives a key, the error signal
when it gives none (R272, R274, R277, R282). That an edit which leaves the normalised secret as it is counts as a
replacement, and that the error signal goes out alone, are the model's choices (log 12). -/
def Obligations.EntryPublishesExactlyOnce : Prop :=
  ∀ (y : System) (text : List Nat) (now : BitVec 64),
    normalise text ≠ [] → (normalise text).length ≤ y.block.cfg.secCap →
    ∃ y' : System, y.react (.edit text now) = .next y' ∧
      y'.block.sec = normalise text ∧ y'.block.time = now ∧
      (b32decode (normalise text) ≠ [] →
        y'.sched = ⟨.active, true, y.sched.published ++
          [.code (codeString (truncCode (truncValue (hmac (b32decode (normalise text)) (counterBytes now)))))
            (secondsRemaining now)]⟩) ∧
      (b32decode (normalise text) = [] → y'.sched = ⟨.active, true, y.sched.published ++ [.invalidSecret]⟩)

/-- Active to Idle, on a stop or on an edit that normalises to nothing: SEC and KEY are empty, KBLK is zero, the timer is
cancelled, the neutral state is published, and a tick that comes after it does nothing (R273, R278). That nothing else of
the block changes is the model's choice not to issue the optional TOTP of R273 (log 12). -/
def Obligations.IdleClearsKeyAndStopsTicks : Prop :=
  ∀ (y : System) (i : HostInput), y.sched.mode = .active →
    (i = .stop ∨ ∃ text now, i = .edit text now ∧ normalise text = []) → ∃ y' : System, y.react i = .next y' ∧
    (∃ k : Vector Byte 64, y'.block = { y.block with sec := [], key := [], kblk := k } ∧ ∀ i : Fin 64, k[i] = 0) ∧
    y'.sched = ⟨.idle, false, y.sched.published ++ [.neutral]⟩ ∧
    ∀ now : BitVec 64, y'.react (.tick now) = .next y'
end

