-- ==== Sys2Proof/Laws/Base32.lean ====
section
/-! SUPPORT. What the Base32 decoder does, once (41_base32.md R160 to R170). -/

namespace Sys2Proof.Machine

/-- The symbols without a value (R161, R162). -/
theorem symbolValue_none_iff (c : Byte) :
    symbolValue c = none ↔ ¬(0x41 ≤ c.toNat ∧ c.toNat ≤ 0x5A) ∧ ¬(0x32 ≤ c.toNat ∧ c.toNat ≤ 0x37) := by
  unfold symbolValue
  split
  · simp_all
  · split <;> simp_all

/-- Absorbing a value adds five bits, counted over the bytes emitted and NB; NB stays below 8. -/
theorem b32absorb_spec (st : B32State) (v : BitVec 5) (h : st.nb < 8) :
    8 * (b32absorb st v).out.length + (b32absorb st v).nb = 8 * st.out.length + st.nb + 5 ∧ (b32absorb st v).nb < 8 := by
  unfold b32absorb
  dsimp only
  split <;> simp <;> omega

/-- A symbol adds five bits if it has a value and none otherwise. -/
theorem b32symbol_spec (st : B32State) (c : Byte) (h : st.nb < 8) :
    8 * (b32symbol st c).out.length + (b32symbol st c).nb = 8 * st.out.length + st.nb + 5 * (symbolValue c).toList.length ∧
      (b32symbol st c).nb < 8 := by
  unfold b32symbol
  cases symbolValue c with
  | none => simpa using h
  | some v => simpa using b32absorb_spec st v h

/-- The count of bits over any run of symbols, from any state of P165. -/
theorem foldl_b32symbol_spec (s : List Byte) (st : B32State) (h : st.nb < 8) :
    8 * (s.foldl b32symbol st).out.length + (s.foldl b32symbol st).nb =
        8 * st.out.length + st.nb + 5 * alphabetCount s ∧
      (s.foldl b32symbol st).nb < 8 := by
  induction s generalizing st with
  | nil => simpa [alphabetCount, alphabetValues] using h
  | cons c s ih =>
    obtain ⟨h1, h2⟩ := b32symbol_spec st c h
    obtain ⟨h3, h4⟩ := ih _ h2
    refine ⟨?_, h4⟩
    rw [List.foldl_cons, h3, h1]
    cases hc : symbolValue c <;> (simp [alphabetCount, alphabetValues, hc]; try omega)

/-- The bytes P165 emits and the bits it has left over are five bits for each alphabet symbol. -/
theorem b32run_count (s : List Byte) :
    8 * (b32run s).out.length + (b32run s).nb = 5 * alphabetCount s ∧ (b32run s).nb < 8 := by
  unfold b32run
  simpa [b32start] using foldl_b32symbol_spec s b32start (by decide)

/-- There are no more alphabet symbols than symbols. -/
theorem alphabetCount_le (s : List Byte) : alphabetCount s ≤ s.length := List.length_filterMap_le _ _

/-- The bound that R9 puts KEYCAP above, so that a decode cannot overflow KEY (R169). -/
theorem b32decode_length_le (s : List Byte) : (b32decode s).length ≤ 5 * s.length / 8 := by
  have h1 := b32run_count s
  have h2 := alphabetCount_le s
  unfold b32decode
  omega

end Sys2Proof.Machine
end

