-- ==== Sys2Proof/Laws/Decode.lean ====
section
/-! SUPPORT. The small lemmas of the transaction word and of the two register maps. -/

namespace Sys2Proof
@[simp] theorem Transaction.wr_mk (a : BitVec 1) (n : BitVec 6) (d : Word) : (Transaction.mk a n d).wr = a := by
  simp only [Transaction.wr, Transaction.mk]
  ext i hi
  obtain rfl : i = 0 := by omega
  rw [BitVec.getElem_extractLsb', BitVec.getLsbD_append, BitVec.getLsbD_append]
  simp

@[simp] theorem Transaction.n_mk (a : BitVec 1) (n : BitVec 6) (d : Word) : (Transaction.mk a n d).n = n := by
  simp only [Transaction.n, Transaction.mk]
  ext i hi
  rw [BitVec.getElem_extractLsb', BitVec.getLsbD_append, BitVec.getLsbD_append]
  simp [hi]

@[simp] theorem Transaction.data_mk (a : BitVec 1) (n : BitVec 6) (d : Word) : (Transaction.mk a n d).data = d := by
  simp only [Transaction.data, Transaction.mk]
  ext i hi
  rw [BitVec.getElem_extractLsb', BitVec.getLsbD_append]
  simp [hi]

/-- A transaction is its three fields. -/
theorem Transaction.mk_fields (x : Transaction) : Transaction.mk x.wr x.n x.data = x := by
  simp only [Transaction.mk, Transaction.wr, Transaction.n, Transaction.data]
  apply BitVec.eq_of_getLsbD_eq
  intro i hi
  rw [BitVec.getLsbD_append, BitVec.getLsbD_append]
  simp only [BitVec.getLsbD_extractLsb']
  by_cases h : i < 32
  · simp [h]
  · by_cases h2 : i - 32 < 6
    · have : 32 + (i - 32) = i := by omega
      simp [h, h2, this]
    · have : i = 38 := by omega
      subst this; simp

/-- Decoding a write is a look-up in the write map. -/
theorem decode_write (n : BitVec 6) (d : Word) : decode (.mk 1 n d) = writeMap[n.toNat] d := by
  unfold decode
  rw [if_pos (Transaction.wr_mk 1 n d), Transaction.data_mk]
  refine congrFun ?_ d
  simp only [Transaction.n_mk]
/-- Decoding a read is a look-up in the read map, whatever the data field (R90). -/
theorem decode_read (n : BitVec 6) (d : Word) : decode (.mk 0 n d) = readMap[n.toNat] := by
  unfold decode
  rw [if_neg (by rw [Transaction.wr_mk]; decide)]
  simp only [Transaction.n_mk]
end Sys2Proof
end

