-- ==== Sys2Proof/Laws/Sha.lean ====
section
/-! SUPPORT. What the SHA engine does, once (42_sha1.md R180 to R198), and the frame of an HMAC on it (43_hmac.md R226). -/

namespace Sys2Proof.Machine

/-- Running blocks through the engine: H is folded, W holds the last block, and beside the hidden registers of the
SHA unit nothing changes. -/
theorem foldl_engine (bs : List (List Byte)) (s : State) :
    ∃ g : Hidden, bs.foldl (fun s blk => (s.loadBlock blk).shblk) s =
      { s with
        h := bs.foldl (fun h blk => compress h (wordsOfBlock blk)) s.h
        w := bs.foldl (fun _ blk => wordsOfBlock blk) s.w
        hid := g } ∧ g.acc = s.hid.acc ∧ g.nb = s.hid.nb ∧ g.phase.stage = s.hid.phase.stage := by
  induction bs generalizing s with
  | nil => exact ⟨s.hid, rfl, rfl, rfl, rfl⟩
  | cons b bs ih =>
    obtain ⟨g, h1, h2, h3, h4⟩ := ih ((s.loadBlock b).shblk)
    exact ⟨g, h1, h2, h3, h4⟩

/-- Overwriting with each element of a list leaves the last. -/
theorem foldl_last {α β : Type} (f : α → β) (l : List α) (hl : l ≠ []) (d : α) (b : β) :
    l.foldl (fun _ a => f a) b = f (l.getLastD d) := by
  induction l generalizing b with
  | nil => exact absurd rfl hl
  | cons a l ih =>
    cases l with
    | nil => rfl
    | cons a' l => rw [List.foldl_cons, ih (by simp)]; rfl

/-- A padded message has at least one block. -/
theorem pad_length_ge (m : List Byte) : 64 ≤ (pad m).length := by
  unfold pad rep be64 padZeros
  simp
  omega

/-- A padded message has at least one block. -/
theorem blocks_ne_nil (m : List Byte) : blocks m ≠ [] := by
  have := pad_length_ge m
  unfold blocks
  simp
  omega

/-- All that a hash on the engine does (R193, R195, R196). -/
theorem hashMessage_spec (m : List Byte) (s : State) :
    ∃ g : Hidden, s.hashMessage m = { s with h := sha1Chain m, w := lastBlockWords m, hid := g } ∧
      g.acc = s.hid.acc ∧ g.nb = s.hid.nb ∧ g.phase.stage = s.hid.phase.stage := by
  obtain ⟨g, h1, h2⟩ := foldl_engine (blocks m) s.shinit
  refine ⟨g, ?_, h2⟩
  unfold State.hashMessage
  rw [h1, foldl_last wordsOfBlock _ (blocks_ne_nil m) []]
  unfold sha1Chain lastBlockWords
  rfl

/-- The key block of P226 is the key block of R222, and beside KBLK the engine alone changes. -/
theorem loadKeyBlock_spec (s : State) :
    ∃ (h : Vector Word 5) (w : Vector Word 16) (g : Hidden),
      s.loadKeyBlock = { s with h := h, w := w, kblk := keyBlock s.key, hid := g } ∧
        g.acc = s.hid.acc ∧ g.nb = s.hid.nb := by
  unfold State.loadKeyBlock keyBlock shortKey
  split
  · obtain ⟨g, hg, ha, hn, -⟩ := hashMessage_spec s.key (s.enter .keyHash)
    dsimp only
    rw [hg]
    exact ⟨_, _, g, rfl, ha, hn⟩
  · exact ⟨s.h, s.w, s.hid, rfl, rfl, rfl⟩

/-- The inner hash: the engine and DIG after it, and nothing else changed (P226, phase INNER). -/
theorem innerHash_spec (s : State) :
    ∃ g : Hidden, (let m := ipad s.kblk ++ s.msg
      s.innerHash = { s with h := sha1Chain m, w := lastBlockWords m, dig := sha1 m, hid := g }) ∧
        g.acc = s.hid.acc ∧ g.nb = s.hid.nb := by
  unfold State.innerHash
  obtain ⟨g, hg, ha, hn, -⟩ := hashMessage_spec (ipad s.kblk ++ s.msg) (s.enter .inner)
  rw [hg]
  exact ⟨g, rfl, ha, hn⟩

/-- The outer hash, of `opad` and DIG (P226, phase OUTER). -/
theorem outerHash_spec (s : State) :
    ∃ g : Hidden, (let m := opad s.kblk ++ s.dig.toList
      s.outerHash = { s with h := sha1Chain m, w := lastBlockWords m, dig := sha1 m, hid := g }) ∧
        g.acc = s.hid.acc ∧ g.nb = s.hid.nb := by
  unfold State.outerHash
  obtain ⟨g, hg, ha, hn, -⟩ := hashMessage_spec (opad s.kblk ++ s.dig.toList) (s.enter .outer)
  rw [hg]
  exact ⟨g, rfl, ha, hn⟩

/-- The frame of an HMAC: no buffer, no time, no truncation output, no flag but DV, not ACC or NB (R226). -/
theorem runHmac_frame (s : State) :
    ∃ (h : Vector Word 5) (w : Vector Word 16) (d : Vector Byte 20) (g : Hidden),
      s.runHmac = { s with h := h, w := w, dig := d, kblk := keyBlock s.key, dv := true, hid := g } ∧
        g.acc = s.hid.acc ∧ g.nb = s.hid.nb := by
  obtain ⟨_, _, g1, h1, a1, n1⟩ := loadKeyBlock_spec s
  obtain ⟨g2, h2, a2, n2⟩ := innerHash_spec s.loadKeyBlock
  obtain ⟨g3, h3, a3, n3⟩ := outerHash_spec s.loadKeyBlock.innerHash
  rw [h2] at a3 n3
  rw [h1] at a2 n2
  unfold State.runHmac
  rw [h3, h2, h1]
  exact ⟨_, _, _, g3, rfl, a3.trans (a2.trans a1), n3.trans (n2.trans n1)⟩

end Sys2Proof.Machine
end

