-- ==== Sys2Proof/Laws/Ops.lean ====
section
/-! SUPPORT. What each shared operation does, once, and that every operation on the buffers keeps `Memory.wf`. -/

namespace Sys2Proof.Machine

/-! ### The operations -/

/-- A push of a symbol: appended, or dropped with OVF (R128). -/
theorem pushSec_cases (b : Byte) (s : State) :
    (s.sec.length < s.cfg.secCap ∧ s.pushSec b = { s with sec := s.sec ++ [b] }) ∨
      (s.cfg.secCap ≤ s.sec.length ∧ s.pushSec b = { s with ovf := true }) := by
  unfold State.pushSec
  split
  · exact .inl ⟨‹_›, rfl⟩
  · exact .inr ⟨Nat.le_of_not_lt ‹_›, rfl⟩

/-- A push of a key byte (R129). -/
theorem pushKey_cases (b : Byte) (s : State) :
    (s.key.length < s.cfg.keyCap ∧ s.pushKey b = { s with key := s.key ++ [b] }) ∨
      (s.cfg.keyCap ≤ s.key.length ∧ s.pushKey b = { s with ovf := true }) := by
  unfold State.pushKey
  split
  · exact .inl ⟨‹_›, rfl⟩
  · exact .inr ⟨Nat.le_of_not_lt ‹_›, rfl⟩

/-- A push of a message byte (R130). -/
theorem pushMsg_cases (b : Byte) (s : State) :
    (s.msg.length < s.cfg.msgCap ∧ s.pushMsg b = { s with msg := s.msg ++ [b] }) ∨
      (s.cfg.msgCap ≤ s.msg.length ∧ s.pushMsg b = { s with ovf := true }) := by
  unfold State.pushMsg
  split
  · exact .inl ⟨‹_›, rfl⟩
  · exact .inr ⟨Nat.le_of_not_lt ‹_›, rfl⟩

/-- The three outcomes of P250 before the sequencer is idle again, with the tests on SEC and its decode. -/
theorem runTotp_cases (s : State) :
    (s.sec = [] ∧ s.runTotp = (s.enter .decode).decodeSecret.raise .noSecret) ∨
      (s.sec ≠ [] ∧ b32decode s.sec = [] ∧ s.runTotp = (s.enter .decode).decodeSecret.raise .invalidSecret) ∨
      (s.sec ≠ [] ∧ b32decode s.sec ≠ [] ∧ s.runTotp = (s.enter .decode).decodeSecret.totpCode) := by
  have hs : (s.enter .decode).decodeSecret.sec = s.sec := rfl
  have hk : (s.enter .decode).decodeSecret.key = b32decode s.sec := rfl
  unfold State.runTotp
  simp only [hs, hk, List.length_eq_zero_iff]
  split
  · exact .inl ⟨‹_›, rfl⟩
  · split
    · exact .inr (.inl ⟨‹_›, ‹_›, rfl⟩)
    · exact .inr (.inr ⟨‹_›, ‹_›, rfl⟩)

/-! ### The host's side -/

@[simp] theorem andThen_next {σ τ : Type} (s : σ) (f : σ → Host.Outcome τ Fault Refusal) :
    andThen (.next s) f = f s := rfl

/-- Presenting an access runs the decoded instruction in the state it was presented to. -/
theorem deliver_access (x : Transaction) (s : State) : deliver (.access x) s = exec (decode x) s := rfl

@[simp] theorem runScript_nil (s : State) : runScript [] s = .next s := rfl

@[simp] theorem runScript_cons (e : PortEvent) (es : List PortEvent) (s : State) :
    runScript (e :: es) s = andThen (deliver e s) fun s' => runScript es s' := rfl

/-- A script in two parts. -/
theorem runScript_append (es fs : List PortEvent) (s : State) :
    runScript (es ++ fs) s = andThen (runScript es s) fun s' => runScript fs s' := by
  induction es generalizing s with
  | nil => rfl
  | cons e es ih =>
    rw [List.cons_append, runScript_cons, runScript_cons]
    cases deliver e s with
    | next s' => exact ih s'
    | fault r => rfl
    | refused r => rfl

/-! ### The buffers keep their form -/

theorem reset_wf : Memory.wf State.reset := by decide

theorem hardReset_wf (s : State) : Memory.wf s.hardReset := by simp [Memory.wf, State.hardReset, State.reset]

theorem raise_wf (c : Condition) (s : State) (h : Memory.wf s) : Memory.wf (s.raise c) := by
  obtain ⟨h1, h2, h3⟩ := h
  cases c <;> exact ⟨h1, by first | exact h2 | exact Nat.zero_le _, h3⟩

theorem clear_wf (s : State) (h : Memory.wf s) :
    Memory.wf { s with sec := [] } ∧ (∀ k, Memory.wf { s with key := [], kblk := k }) ∧ Memory.wf { s with msg := [] } := by
  obtain ⟨h1, h2, h3⟩ := h
  exact ⟨⟨Nat.zero_le _, h2, h3⟩, fun _ => ⟨h1, Nat.zero_le _, h3⟩, h1, h2, Nat.zero_le _⟩

theorem pushSec_wf (b : Byte) (s : State) (h : Memory.wf s) : Memory.wf (s.pushSec b) := by
  obtain ⟨h1, h2, h3⟩ := h
  rcases pushSec_cases b s with ⟨hlt, e⟩ | ⟨-, e⟩ <;> rw [e]
  · exact ⟨by simpa using hlt, h2, h3⟩
  · exact ⟨h1, h2, h3⟩

theorem pushKey_wf (b : Byte) (s : State) (h : Memory.wf s) : Memory.wf (s.pushKey b) := by
  obtain ⟨h1, h2, h3⟩ := h
  rcases pushKey_cases b s with ⟨hlt, e⟩ | ⟨-, e⟩ <;> rw [e]
  · exact ⟨h1, by simpa using hlt, h3⟩
  · exact ⟨h1, h2, h3⟩

theorem pushMsg_wf (b : Byte) (s : State) (h : Memory.wf s) : Memory.wf (s.pushMsg b) := by
  obtain ⟨h1, h2, h3⟩ := h
  rcases pushMsg_cases b s with ⟨hlt, e⟩ | ⟨-, e⟩ <;> rw [e]
  · exact ⟨h1, h2, by simpa using hlt⟩
  · exact ⟨h1, h2, h3⟩

/-- A decode keeps KEY within its capacity, because R9 asks `floor(5·SECCAP/8) ≤ KEYCAP`. -/
theorem decodeSecret_wf (s : State) (hc : s.cfg.ok) (h : Memory.wf s) : Memory.wf s.decodeSecret := by
  obtain ⟨h1, h2, h3⟩ := h
  obtain ⟨-, -, c3, -, -, -⟩ := hc
  refine ⟨h1, ?_, h3⟩
  have hl := b32decode_length_le s.sec
  have : s.decodeSecret.key = b32decode s.sec := rfl
  rw [this]
  show (b32decode s.sec).length ≤ s.cfg.keyCap
  omega

/-- The counter bytes fit MSG, because R9 asks `8 ≤ MSGCAP`. -/
theorem timeStep_wf (s : State) (hc : s.cfg.ok) (h : Memory.wf s) : Memory.wf s.timeStep := by
  obtain ⟨h1, h2, h3⟩ := h
  obtain ⟨-, -, -, -, c5, -⟩ := hc
  refine ⟨h1, h2, ?_⟩
  show (counterBytes s.time).length ≤ s.cfg.msgCap
  unfold counterBytes be64
  simpa using c5

/-- An HMAC leaves the buffers alone. -/
theorem runHmac_wf (s : State) (h : Memory.wf s) : Memory.wf s.runHmac := by
  obtain ⟨_, _, _, _, e, -⟩ := runHmac_frame s
  rw [e]
  exact h

/-- A hash leaves the buffers alone. -/
theorem hashMessage_wf (m : List Byte) (s : State) (h : Memory.wf s) : Memory.wf (s.hashMessage m) := by
  obtain ⟨_, e, -⟩ := hashMessage_spec m s
  rw [e]
  exact h

end Sys2Proof.Machine
end

