-- ==== Sys2Proof/Laws/PerInstr.lean ====
section
/-! SUPPORT. A fact about each instruction as syntax: its encoding matches its row of spec/opcode_table.json. -/

namespace Sys2Proof.Laws

/-- The `match` and `mask` of an instruction's row in spec/opcode_table.json. -/
def tableRow : Instr → Transaction × Transaction
  | .nop => (0x4000000000, 0x7FFFFFFFFF)
  | .reset => (0x4000000001, 0x7FFFFFFFFF)
  | .clrsec => (0x4000000002, 0x7FFFFFFFFF)
  | .clrkey => (0x4000000003, 0x7FFFFFFFFF)
  | .clrmsg => (0x4000000004, 0x7FFFFFFFFF)
  | .b32dec => (0x4000000010, 0x7FFFFFFFFF)
  | .shinit => (0x4000000020, 0x7FFFFFFFFF)
  | .shblk => (0x4000000021, 0x7FFFFFFFFF)
  | .sha1 => (0x4000000022, 0x7FFFFFFFFF)
  | .hmac => (0x4000000030, 0x7FFFFFFFFF)
  | .tstep => (0x4000000040, 0x7FFFFFFFFF)
  | .trunc => (0x4000000041, 0x7FFFFFFFFF)
  | .totp => (0x4000000042, 0x7FFFFFFFFF)
  | .illcmd _ => (0x4000000000, 0x7F00000000)
  | .wrTimelo _ => (0x4200000000, 0x7F00000000)
  | .wrTimehi _ => (0x4300000000, 0x7F00000000)
  | .wrSecpush _ => (0x4400000000, 0x7F00000000)
  | .wrKeypush _ => (0x4500000000, 0x7F00000000)
  | .wrMsgpush _ => (0x4600000000, 0x7F00000000)
  | .wrBufidx _ => (0x4700000000, 0x7F00000000)
  | .wrW _ _ => (0x6000000000, 0x7000000000)
  | .wrStatus _ => (0x4100000000, 0x7F00000000)
  | .wrSeclen _ => (0x4800000000, 0x7F00000000)
  | .wrKeylen _ => (0x4900000000, 0x7F00000000)
  | .wrMsglen _ => (0x4A00000000, 0x7F00000000)
  | .wrSecrd _ => (0x4B00000000, 0x7F00000000)
  | .wrKeyrd _ => (0x4C00000000, 0x7F00000000)
  | .wrMsgrd _ => (0x4D00000000, 0x7F00000000)
  | .wrH0 _ => (0x5000000000, 0x7F00000000)
  | .wrH1 _ => (0x5100000000, 0x7F00000000)
  | .wrH2 _ => (0x5200000000, 0x7F00000000)
  | .wrH3 _ => (0x5300000000, 0x7F00000000)
  | .wrH4 _ => (0x5400000000, 0x7F00000000)
  | .wrDig0 _ => (0x5800000000, 0x7F00000000)
  | .wrDig1 _ => (0x5900000000, 0x7F00000000)
  | .wrDig2 _ => (0x5A00000000, 0x7F00000000)
  | .wrDig3 _ => (0x5B00000000, 0x7F00000000)
  | .wrDig4 _ => (0x5C00000000, 0x7F00000000)
  | .wrOffset _ => (0x5D00000000, 0x7F00000000)
  | .wrValue _ => (0x5E00000000, 0x7F00000000)
  | .wrCode _ => (0x5F00000000, 0x7F00000000)
  | .wrCodebcd _ => (0x7000000000, 0x7F00000000)
  | .wrRsv0E _ => (0x4E00000000, 0x7F00000000)
  | .wrRsv0F _ => (0x4F00000000, 0x7F00000000)
  | .wrRsv15 _ => (0x5500000000, 0x7F00000000)
  | .wrRsv16 _ => (0x5600000000, 0x7F00000000)
  | .wrRsv17 _ => (0x5700000000, 0x7F00000000)
  | .wrRsv31 _ => (0x7100000000, 0x7F00000000)
  | .wrRsv32 _ => (0x7200000000, 0x7F00000000)
  | .wrRsv33 _ => (0x7300000000, 0x7F00000000)
  | .wrRsv34 _ => (0x7400000000, 0x7F00000000)
  | .wrRsv35 _ => (0x7500000000, 0x7F00000000)
  | .wrRsv36 _ => (0x7600000000, 0x7F00000000)
  | .wrRsv37 _ => (0x7700000000, 0x7F00000000)
  | .wrRsv38 _ => (0x7800000000, 0x7F00000000)
  | .wrRsv39 _ => (0x7900000000, 0x7F00000000)
  | .wrRsv3A _ => (0x7A00000000, 0x7F00000000)
  | .wrRsv3B _ => (0x7B00000000, 0x7F00000000)
  | .wrRsv3C _ => (0x7C00000000, 0x7F00000000)
  | .wrRsv3D _ => (0x7D00000000, 0x7F00000000)
  | .wrRsv3E _ => (0x7E00000000, 0x7F00000000)
  | .wrRsv3F _ => (0x7F00000000, 0x7F00000000)
  | .rdStatus => (0x0100000000, 0x7F00000000)
  | .rdTimelo => (0x0200000000, 0x7F00000000)
  | .rdTimehi => (0x0300000000, 0x7F00000000)
  | .rdBufidx => (0x0700000000, 0x7F00000000)
  | .rdSeclen => (0x0800000000, 0x7F00000000)
  | .rdKeylen => (0x0900000000, 0x7F00000000)
  | .rdMsglen => (0x0A00000000, 0x7F00000000)
  | .rdSecrd => (0x0B00000000, 0x7F00000000)
  | .rdKeyrd => (0x0C00000000, 0x7F00000000)
  | .rdMsgrd => (0x0D00000000, 0x7F00000000)
  | .rdH0 => (0x1000000000, 0x7F00000000)
  | .rdH1 => (0x1100000000, 0x7F00000000)
  | .rdH2 => (0x1200000000, 0x7F00000000)
  | .rdH3 => (0x1300000000, 0x7F00000000)
  | .rdH4 => (0x1400000000, 0x7F00000000)
  | .rdDig0 => (0x1800000000, 0x7F00000000)
  | .rdDig1 => (0x1900000000, 0x7F00000000)
  | .rdDig2 => (0x1A00000000, 0x7F00000000)
  | .rdDig3 => (0x1B00000000, 0x7F00000000)
  | .rdDig4 => (0x1C00000000, 0x7F00000000)
  | .rdOffset => (0x1D00000000, 0x7F00000000)
  | .rdValue => (0x1E00000000, 0x7F00000000)
  | .rdCode => (0x1F00000000, 0x7F00000000)
  | .rdCodebcd => (0x3000000000, 0x7F00000000)
  | .rdW _ => (0x2000000000, 0x7000000000)
  | .rdCmd => (0x0000000000, 0x7F00000000)
  | .rdSecpush => (0x0400000000, 0x7F00000000)
  | .rdKeypush => (0x0500000000, 0x7F00000000)
  | .rdMsgpush => (0x0600000000, 0x7F00000000)
  | .rdRsv0E => (0x0E00000000, 0x7F00000000)
  | .rdRsv0F => (0x0F00000000, 0x7F00000000)
  | .rdRsv15 => (0x1500000000, 0x7F00000000)
  | .rdRsv16 => (0x1600000000, 0x7F00000000)
  | .rdRsv17 => (0x1700000000, 0x7F00000000)
  | .rdRsv31 => (0x3100000000, 0x7F00000000)
  | .rdRsv32 => (0x3200000000, 0x7F00000000)
  | .rdRsv33 => (0x3300000000, 0x7F00000000)
  | .rdRsv34 => (0x3400000000, 0x7F00000000)
  | .rdRsv35 => (0x3500000000, 0x7F00000000)
  | .rdRsv36 => (0x3600000000, 0x7F00000000)
  | .rdRsv37 => (0x3700000000, 0x7F00000000)
  | .rdRsv38 => (0x3800000000, 0x7F00000000)
  | .rdRsv39 => (0x3900000000, 0x7F00000000)
  | .rdRsv3A => (0x3A00000000, 0x7F00000000)
  | .rdRsv3B => (0x3B00000000, 0x7F00000000)
  | .rdRsv3C => (0x3C00000000, 0x7F00000000)
  | .rdRsv3D => (0x3D00000000, 0x7F00000000)
  | .rdRsv3E => (0x3E00000000, 0x7F00000000)
  | .rdRsv3F => (0x3F00000000, 0x7F00000000)

/-- A word built from its fields, masked field by field. -/
theorem mk_and_mk (a a' : BitVec 1) (n n' : BitVec 6) (d d' : Word) :
    Transaction.mk a n d &&& Transaction.mk a' n' d' = Transaction.mk (a &&& a') (n &&& n') (d &&& d') :=
  BitVec.and_append.trans (congrArg (· ++ (d &&& d')) BitVec.and_append)

/-- A word built from its fields, under the mask of the rows whose register number is significant. -/
theorem mk_and_register (a : BitVec 1) (n : BitVec 6) (d : Word) :
    Transaction.mk a n d &&& 0x7F00000000 = Transaction.mk a n 0 := by
  have ha : a &&& 1 = a := by revert a; decide
  have hn : n &&& 0x3F = n := by revert n; decide
  have h := mk_and_mk a 1 n 0x3F d 0
  rwa [ha, hn, show d &&& 0 = 0 from BitVec.and_zero] at h

/-- The same under the mask of the rows of the W registers, which leaves the index free. -/
theorem mk_and_window (a : BitVec 1) (n : BitVec 6) (d : Word) :
    Transaction.mk a n d &&& 0x7000000000 = Transaction.mk a (n &&& 0x30) 0 := by
  have ha : a &&& 1 = a := by revert a; decide
  have h := mk_and_mk a 1 n 0x30 d 0
  rwa [ha, show d &&& 0 = 0 from BitVec.and_zero] at h

/-- The number of a W register, under that mask. -/
theorem wNumber_and (i : Fin 16) : wNumber i &&& 0x30 = 0x20 := by revert i; decide

/-- The encoding of the instruction matches its row of the opcode table. -/
def TableRow.Statement (i : Instr) : Prop := encode i &&& (tableRow i).2 = (tableRow i).1

namespace TableRow

theorem nop : Statement .nop := by unfold Statement; decide
theorem reset : Statement .reset := by unfold Statement; decide
theorem clrsec : Statement .clrsec := by unfold Statement; decide
theorem clrkey : Statement .clrkey := by unfold Statement; decide
theorem clrmsg : Statement .clrmsg := by unfold Statement; decide
theorem b32dec : Statement .b32dec := by unfold Statement; decide
theorem shinit : Statement .shinit := by unfold Statement; decide
theorem shblk : Statement .shblk := by unfold Statement; decide
theorem sha1 : Statement .sha1 := by unfold Statement; decide
theorem hmac : Statement .hmac := by unfold Statement; decide
theorem tstep : Statement .tstep := by unfold Statement; decide
theorem trunc : Statement .trunc := by unfold Statement; decide
theorem totp : Statement .totp := by unfold Statement; decide
theorem illcmd (data : Word) : Statement (.illcmd data) := mk_and_register _ _ data
theorem wrTimelo (data : Word) : Statement (.wrTimelo data) := mk_and_register _ _ data
theorem wrTimehi (data : Word) : Statement (.wrTimehi data) := mk_and_register _ _ data
theorem wrSecpush (data : Word) : Statement (.wrSecpush data) := mk_and_register _ _ data
theorem wrKeypush (data : Word) : Statement (.wrKeypush data) := mk_and_register _ _ data
theorem wrMsgpush (data : Word) : Statement (.wrMsgpush data) := mk_and_register _ _ data
theorem wrBufidx (data : Word) : Statement (.wrBufidx data) := mk_and_register _ _ data
theorem wrW (i : Fin 16) (data : Word) : Statement (.wrW i data) := by
  unfold Statement
  exact (mk_and_window _ _ data).trans (congrArg (Transaction.mk 1 · 0) (wNumber_and i))
theorem wrStatus (data : Word) : Statement (.wrStatus data) := mk_and_register _ _ data
theorem wrSeclen (data : Word) : Statement (.wrSeclen data) := mk_and_register _ _ data
theorem wrKeylen (data : Word) : Statement (.wrKeylen data) := mk_and_register _ _ data
theorem wrMsglen (data : Word) : Statement (.wrMsglen data) := mk_and_register _ _ data
theorem wrSecrd (data : Word) : Statement (.wrSecrd data) := mk_and_register _ _ data
theorem wrKeyrd (data : Word) : Statement (.wrKeyrd data) := mk_and_register _ _ data
theorem wrMsgrd (data : Word) : Statement (.wrMsgrd data) := mk_and_register _ _ data
theorem wrH0 (data : Word) : Statement (.wrH0 data) := mk_and_register _ _ data
theorem wrH1 (data : Word) : Statement (.wrH1 data) := mk_and_register _ _ data
theorem wrH2 (data : Word) : Statement (.wrH2 data) := mk_and_register _ _ data
theorem wrH3 (data : Word) : Statement (.wrH3 data) := mk_and_register _ _ data
theorem wrH4 (data : Word) : Statement (.wrH4 data) := mk_and_register _ _ data
theorem wrDig0 (data : Word) : Statement (.wrDig0 data) := mk_and_register _ _ data
theorem wrDig1 (data : Word) : Statement (.wrDig1 data) := mk_and_register _ _ data
theorem wrDig2 (data : Word) : Statement (.wrDig2 data) := mk_and_register _ _ data
theorem wrDig3 (data : Word) : Statement (.wrDig3 data) := mk_and_register _ _ data
theorem wrDig4 (data : Word) : Statement (.wrDig4 data) := mk_and_register _ _ data
theorem wrOffset (data : Word) : Statement (.wrOffset data) := mk_and_register _ _ data
theorem wrValue (data : Word) : Statement (.wrValue data) := mk_and_register _ _ data
theorem wrCode (data : Word) : Statement (.wrCode data) := mk_and_register _ _ data
theorem wrCodebcd (data : Word) : Statement (.wrCodebcd data) := mk_and_register _ _ data
theorem wrRsv0E (data : Word) : Statement (.wrRsv0E data) := mk_and_register _ _ data
theorem wrRsv0F (data : Word) : Statement (.wrRsv0F data) := mk_and_register _ _ data
theorem wrRsv15 (data : Word) : Statement (.wrRsv15 data) := mk_and_register _ _ data
theorem wrRsv16 (data : Word) : Statement (.wrRsv16 data) := mk_and_register _ _ data
theorem wrRsv17 (data : Word) : Statement (.wrRsv17 data) := mk_and_register _ _ data
theorem wrRsv31 (data : Word) : Statement (.wrRsv31 data) := mk_and_register _ _ data
theorem wrRsv32 (data : Word) : Statement (.wrRsv32 data) := mk_and_register _ _ data
theorem wrRsv33 (data : Word) : Statement (.wrRsv33 data) := mk_and_register _ _ data
theorem wrRsv34 (data : Word) : Statement (.wrRsv34 data) := mk_and_register _ _ data
theorem wrRsv35 (data : Word) : Statement (.wrRsv35 data) := mk_and_register _ _ data
theorem wrRsv36 (data : Word) : Statement (.wrRsv36 data) := mk_and_register _ _ data
theorem wrRsv37 (data : Word) : Statement (.wrRsv37 data) := mk_and_register _ _ data
theorem wrRsv38 (data : Word) : Statement (.wrRsv38 data) := mk_and_register _ _ data
theorem wrRsv39 (data : Word) : Statement (.wrRsv39 data) := mk_and_register _ _ data
theorem wrRsv3A (data : Word) : Statement (.wrRsv3A data) := mk_and_register _ _ data
theorem wrRsv3B (data : Word) : Statement (.wrRsv3B data) := mk_and_register _ _ data
theorem wrRsv3C (data : Word) : Statement (.wrRsv3C data) := mk_and_register _ _ data
theorem wrRsv3D (data : Word) : Statement (.wrRsv3D data) := mk_and_register _ _ data
theorem wrRsv3E (data : Word) : Statement (.wrRsv3E data) := mk_and_register _ _ data
theorem wrRsv3F (data : Word) : Statement (.wrRsv3F data) := mk_and_register _ _ data
theorem rdStatus : Statement .rdStatus := by unfold Statement; decide
theorem rdTimelo : Statement .rdTimelo := by unfold Statement; decide
theorem rdTimehi : Statement .rdTimehi := by unfold Statement; decide
theorem rdBufidx : Statement .rdBufidx := by unfold Statement; decide
theorem rdSeclen : Statement .rdSeclen := by unfold Statement; decide
theorem rdKeylen : Statement .rdKeylen := by unfold Statement; decide
theorem rdMsglen : Statement .rdMsglen := by unfold Statement; decide
theorem rdSecrd : Statement .rdSecrd := by unfold Statement; decide
theorem rdKeyrd : Statement .rdKeyrd := by unfold Statement; decide
theorem rdMsgrd : Statement .rdMsgrd := by unfold Statement; decide
theorem rdH0 : Statement .rdH0 := by unfold Statement; decide
theorem rdH1 : Statement .rdH1 := by unfold Statement; decide
theorem rdH2 : Statement .rdH2 := by unfold Statement; decide
theorem rdH3 : Statement .rdH3 := by unfold Statement; decide
theorem rdH4 : Statement .rdH4 := by unfold Statement; decide
theorem rdDig0 : Statement .rdDig0 := by unfold Statement; decide
theorem rdDig1 : Statement .rdDig1 := by unfold Statement; decide
theorem rdDig2 : Statement .rdDig2 := by unfold Statement; decide
theorem rdDig3 : Statement .rdDig3 := by unfold Statement; decide
theorem rdDig4 : Statement .rdDig4 := by unfold Statement; decide
theorem rdOffset : Statement .rdOffset := by unfold Statement; decide
theorem rdValue : Statement .rdValue := by unfold Statement; decide
theorem rdCode : Statement .rdCode := by unfold Statement; decide
theorem rdCodebcd : Statement .rdCodebcd := by unfold Statement; decide
theorem rdW (i : Fin 16) : Statement (.rdW i) := by
  unfold Statement
  exact (mk_and_window _ _ 0).trans (congrArg (Transaction.mk 0 · 0) (wNumber_and i))
theorem rdCmd : Statement .rdCmd := by unfold Statement; decide
theorem rdSecpush : Statement .rdSecpush := by unfold Statement; decide
theorem rdKeypush : Statement .rdKeypush := by unfold Statement; decide
theorem rdMsgpush : Statement .rdMsgpush := by unfold Statement; decide
theorem rdRsv0E : Statement .rdRsv0E := by unfold Statement; decide
theorem rdRsv0F : Statement .rdRsv0F := by unfold Statement; decide
theorem rdRsv15 : Statement .rdRsv15 := by unfold Statement; decide
theorem rdRsv16 : Statement .rdRsv16 := by unfold Statement; decide
theorem rdRsv17 : Statement .rdRsv17 := by unfold Statement; decide
theorem rdRsv31 : Statement .rdRsv31 := by unfold Statement; decide
theorem rdRsv32 : Statement .rdRsv32 := by unfold Statement; decide
theorem rdRsv33 : Statement .rdRsv33 := by unfold Statement; decide
theorem rdRsv34 : Statement .rdRsv34 := by unfold Statement; decide
theorem rdRsv35 : Statement .rdRsv35 := by unfold Statement; decide
theorem rdRsv36 : Statement .rdRsv36 := by unfold Statement; decide
theorem rdRsv37 : Statement .rdRsv37 := by unfold Statement; decide
theorem rdRsv38 : Statement .rdRsv38 := by unfold Statement; decide
theorem rdRsv39 : Statement .rdRsv39 := by unfold Statement; decide
theorem rdRsv3A : Statement .rdRsv3A := by unfold Statement; decide
theorem rdRsv3B : Statement .rdRsv3B := by unfold Statement; decide
theorem rdRsv3C : Statement .rdRsv3C := by unfold Statement; decide
theorem rdRsv3D : Statement .rdRsv3D := by unfold Statement; decide
theorem rdRsv3E : Statement .rdRsv3E := by unfold Statement; decide
theorem rdRsv3F : Statement .rdRsv3F := by unfold Statement; decide

end TableRow

end Sys2Proof.Laws
end

