-- ==== Sys2Proof/Laws/State.lean ====
section
/-! SUPPORT. What each field is after each named update of State: one lemma per field per update, true by rfl. -/

namespace Sys2Proof.Machine

variable (s : State)

/-! ### `answer` -/

@[simp] theorem State.answer_h (v : Word) : (s.answer v).h = s.h := rfl
@[simp] theorem State.answer_w (v : Word) : (s.answer v).w = s.w := rfl
@[simp] theorem State.answer_dig (v : Word) : (s.answer v).dig = s.dig := rfl
@[simp] theorem State.answer_sec (v : Word) : (s.answer v).sec = s.sec := rfl
@[simp] theorem State.answer_key (v : Word) : (s.answer v).key = s.key := rfl
@[simp] theorem State.answer_msg (v : Word) : (s.answer v).msg = s.msg := rfl
@[simp] theorem State.answer_bufidx (v : Word) : (s.answer v).bufidx = s.bufidx := rfl
@[simp] theorem State.answer_time (v : Word) : (s.answer v).time = s.time := rfl
@[simp] theorem State.answer_offset (v : Word) : (s.answer v).offset = s.offset := rfl
@[simp] theorem State.answer_value (v : Word) : (s.answer v).value = s.value := rfl
@[simp] theorem State.answer_code (v : Word) : (s.answer v).code = s.code := rfl
@[simp] theorem State.answer_codebcd (v : Word) : (s.answer v).codebcd = s.codebcd := rfl
@[simp] theorem State.answer_dv (v : Word) : (s.answer v).dv = s.dv := rfl
@[simp] theorem State.answer_cv (v : Word) : (s.answer v).cv = s.cv := rfl
@[simp] theorem State.answer_err (v : Word) : (s.answer v).err = s.err := rfl
@[simp] theorem State.answer_nosec (v : Word) : (s.answer v).nosec = s.nosec := rfl
@[simp] theorem State.answer_ill (v : Word) : (s.answer v).ill = s.ill := rfl
@[simp] theorem State.answer_ovf (v : Word) : (s.answer v).ovf = s.ovf := rfl
@[simp] theorem State.answer_kblk (v : Word) : (s.answer v).kblk = s.kblk := rfl
@[simp] theorem State.answer_hid (v : Word) : (s.answer v).hid = s.hid := rfl
@[simp] theorem State.answer_cfg (v : Word) : (s.answer v).cfg = s.cfg := rfl
@[simp] theorem State.answer_pending (v : Word) : (s.answer v).pending = s.pending := rfl
@[simp] theorem State.answer_answers (v : Word) : (s.answer v).answers = s.answers ++ [v] := rfl

/-! ### `enter` -/

@[simp] theorem State.enter_h (g : Stage) : (s.enter g).h = s.h := rfl
@[simp] theorem State.enter_w (g : Stage) : (s.enter g).w = s.w := rfl
@[simp] theorem State.enter_dig (g : Stage) : (s.enter g).dig = s.dig := rfl
@[simp] theorem State.enter_sec (g : Stage) : (s.enter g).sec = s.sec := rfl
@[simp] theorem State.enter_key (g : Stage) : (s.enter g).key = s.key := rfl
@[simp] theorem State.enter_msg (g : Stage) : (s.enter g).msg = s.msg := rfl
@[simp] theorem State.enter_bufidx (g : Stage) : (s.enter g).bufidx = s.bufidx := rfl
@[simp] theorem State.enter_time (g : Stage) : (s.enter g).time = s.time := rfl
@[simp] theorem State.enter_offset (g : Stage) : (s.enter g).offset = s.offset := rfl
@[simp] theorem State.enter_value (g : Stage) : (s.enter g).value = s.value := rfl
@[simp] theorem State.enter_code (g : Stage) : (s.enter g).code = s.code := rfl
@[simp] theorem State.enter_codebcd (g : Stage) : (s.enter g).codebcd = s.codebcd := rfl
@[simp] theorem State.enter_dv (g : Stage) : (s.enter g).dv = s.dv := rfl
@[simp] theorem State.enter_cv (g : Stage) : (s.enter g).cv = s.cv := rfl
@[simp] theorem State.enter_err (g : Stage) : (s.enter g).err = s.err := rfl
@[simp] theorem State.enter_nosec (g : Stage) : (s.enter g).nosec = s.nosec := rfl
@[simp] theorem State.enter_ill (g : Stage) : (s.enter g).ill = s.ill := rfl
@[simp] theorem State.enter_ovf (g : Stage) : (s.enter g).ovf = s.ovf := rfl
@[simp] theorem State.enter_kblk (g : Stage) : (s.enter g).kblk = s.kblk := rfl
@[simp] theorem State.enter_hid (g : Stage) : (s.enter g).hid = { s.hid with phase := ⟨g, 0⟩ } := rfl
@[simp] theorem State.enter_cfg (g : Stage) : (s.enter g).cfg = s.cfg := rfl
@[simp] theorem State.enter_pending (g : Stage) : (s.enter g).pending = s.pending := rfl
@[simp] theorem State.enter_answers (g : Stage) : (s.enter g).answers = s.answers := rfl

/-! ### `finish` -/

@[simp] theorem State.finish_h : (s.finish).h = s.h := rfl
@[simp] theorem State.finish_w : (s.finish).w = s.w := rfl
@[simp] theorem State.finish_dig : (s.finish).dig = s.dig := rfl
@[simp] theorem State.finish_sec : (s.finish).sec = s.sec := rfl
@[simp] theorem State.finish_key : (s.finish).key = s.key := rfl
@[simp] theorem State.finish_msg : (s.finish).msg = s.msg := rfl
@[simp] theorem State.finish_bufidx : (s.finish).bufidx = s.bufidx := rfl
@[simp] theorem State.finish_time : (s.finish).time = s.time := rfl
@[simp] theorem State.finish_offset : (s.finish).offset = s.offset := rfl
@[simp] theorem State.finish_value : (s.finish).value = s.value := rfl
@[simp] theorem State.finish_code : (s.finish).code = s.code := rfl
@[simp] theorem State.finish_codebcd : (s.finish).codebcd = s.codebcd := rfl
@[simp] theorem State.finish_dv : (s.finish).dv = s.dv := rfl
@[simp] theorem State.finish_cv : (s.finish).cv = s.cv := rfl
@[simp] theorem State.finish_err : (s.finish).err = s.err := rfl
@[simp] theorem State.finish_nosec : (s.finish).nosec = s.nosec := rfl
@[simp] theorem State.finish_ill : (s.finish).ill = s.ill := rfl
@[simp] theorem State.finish_ovf : (s.finish).ovf = s.ovf := rfl
@[simp] theorem State.finish_kblk : (s.finish).kblk = s.kblk := rfl
@[simp] theorem State.finish_hid : (s.finish).hid = { s.hid with phase := Phase.idle } := rfl
@[simp] theorem State.finish_cfg : (s.finish).cfg = s.cfg := rfl
@[simp] theorem State.finish_pending : (s.finish).pending = s.pending := rfl
@[simp] theorem State.finish_answers : (s.finish).answers = s.answers := rfl

/-! ### `flagDv` -/

@[simp] theorem State.flagDv_h : (s.flagDv).h = s.h := rfl
@[simp] theorem State.flagDv_w : (s.flagDv).w = s.w := rfl
@[simp] theorem State.flagDv_dig : (s.flagDv).dig = s.dig := rfl
@[simp] theorem State.flagDv_sec : (s.flagDv).sec = s.sec := rfl
@[simp] theorem State.flagDv_key : (s.flagDv).key = s.key := rfl
@[simp] theorem State.flagDv_msg : (s.flagDv).msg = s.msg := rfl
@[simp] theorem State.flagDv_bufidx : (s.flagDv).bufidx = s.bufidx := rfl
@[simp] theorem State.flagDv_time : (s.flagDv).time = s.time := rfl
@[simp] theorem State.flagDv_offset : (s.flagDv).offset = s.offset := rfl
@[simp] theorem State.flagDv_value : (s.flagDv).value = s.value := rfl
@[simp] theorem State.flagDv_code : (s.flagDv).code = s.code := rfl
@[simp] theorem State.flagDv_codebcd : (s.flagDv).codebcd = s.codebcd := rfl
@[simp] theorem State.flagDv_dv : (s.flagDv).dv = true := rfl
@[simp] theorem State.flagDv_cv : (s.flagDv).cv = s.cv := rfl
@[simp] theorem State.flagDv_err : (s.flagDv).err = s.err := rfl
@[simp] theorem State.flagDv_nosec : (s.flagDv).nosec = s.nosec := rfl
@[simp] theorem State.flagDv_ill : (s.flagDv).ill = s.ill := rfl
@[simp] theorem State.flagDv_ovf : (s.flagDv).ovf = s.ovf := rfl
@[simp] theorem State.flagDv_kblk : (s.flagDv).kblk = s.kblk := rfl
@[simp] theorem State.flagDv_hid : (s.flagDv).hid = s.hid := rfl
@[simp] theorem State.flagDv_cfg : (s.flagDv).cfg = s.cfg := rfl
@[simp] theorem State.flagDv_pending : (s.flagDv).pending = s.pending := rfl
@[simp] theorem State.flagDv_answers : (s.flagDv).answers = s.answers := rfl

/-! ### `cvFromDv` -/

@[simp] theorem State.cvFromDv_h : (s.cvFromDv).h = s.h := rfl
@[simp] theorem State.cvFromDv_w : (s.cvFromDv).w = s.w := rfl
@[simp] theorem State.cvFromDv_dig : (s.cvFromDv).dig = s.dig := rfl
@[simp] theorem State.cvFromDv_sec : (s.cvFromDv).sec = s.sec := rfl
@[simp] theorem State.cvFromDv_key : (s.cvFromDv).key = s.key := rfl
@[simp] theorem State.cvFromDv_msg : (s.cvFromDv).msg = s.msg := rfl
@[simp] theorem State.cvFromDv_bufidx : (s.cvFromDv).bufidx = s.bufidx := rfl
@[simp] theorem State.cvFromDv_time : (s.cvFromDv).time = s.time := rfl
@[simp] theorem State.cvFromDv_offset : (s.cvFromDv).offset = s.offset := rfl
@[simp] theorem State.cvFromDv_value : (s.cvFromDv).value = s.value := rfl
@[simp] theorem State.cvFromDv_code : (s.cvFromDv).code = s.code := rfl
@[simp] theorem State.cvFromDv_codebcd : (s.cvFromDv).codebcd = s.codebcd := rfl
@[simp] theorem State.cvFromDv_dv : (s.cvFromDv).dv = s.dv := rfl
@[simp] theorem State.cvFromDv_cv : (s.cvFromDv).cv = s.dv := rfl
@[simp] theorem State.cvFromDv_err : (s.cvFromDv).err = s.err := rfl
@[simp] theorem State.cvFromDv_nosec : (s.cvFromDv).nosec = s.nosec := rfl
@[simp] theorem State.cvFromDv_ill : (s.cvFromDv).ill = s.ill := rfl
@[simp] theorem State.cvFromDv_ovf : (s.cvFromDv).ovf = s.ovf := rfl
@[simp] theorem State.cvFromDv_kblk : (s.cvFromDv).kblk = s.kblk := rfl
@[simp] theorem State.cvFromDv_hid : (s.cvFromDv).hid = s.hid := rfl
@[simp] theorem State.cvFromDv_cfg : (s.cvFromDv).cfg = s.cfg := rfl
@[simp] theorem State.cvFromDv_pending : (s.cvFromDv).pending = s.pending := rfl
@[simp] theorem State.cvFromDv_answers : (s.cvFromDv).answers = s.answers := rfl

/-! ### `flagCode` -/

@[simp] theorem State.flagCode_h : (s.flagCode).h = s.h := rfl
@[simp] theorem State.flagCode_w : (s.flagCode).w = s.w := rfl
@[simp] theorem State.flagCode_dig : (s.flagCode).dig = s.dig := rfl
@[simp] theorem State.flagCode_sec : (s.flagCode).sec = s.sec := rfl
@[simp] theorem State.flagCode_key : (s.flagCode).key = s.key := rfl
@[simp] theorem State.flagCode_msg : (s.flagCode).msg = s.msg := rfl
@[simp] theorem State.flagCode_bufidx : (s.flagCode).bufidx = s.bufidx := rfl
@[simp] theorem State.flagCode_time : (s.flagCode).time = s.time := rfl
@[simp] theorem State.flagCode_offset : (s.flagCode).offset = s.offset := rfl
@[simp] theorem State.flagCode_value : (s.flagCode).value = s.value := rfl
@[simp] theorem State.flagCode_code : (s.flagCode).code = s.code := rfl
@[simp] theorem State.flagCode_codebcd : (s.flagCode).codebcd = s.codebcd := rfl
@[simp] theorem State.flagCode_dv : (s.flagCode).dv = s.dv := rfl
@[simp] theorem State.flagCode_cv : (s.flagCode).cv = true := rfl
@[simp] theorem State.flagCode_err : (s.flagCode).err = false := rfl
@[simp] theorem State.flagCode_nosec : (s.flagCode).nosec = false := rfl
@[simp] theorem State.flagCode_ill : (s.flagCode).ill = s.ill := rfl
@[simp] theorem State.flagCode_ovf : (s.flagCode).ovf = s.ovf := rfl
@[simp] theorem State.flagCode_kblk : (s.flagCode).kblk = s.kblk := rfl
@[simp] theorem State.flagCode_hid : (s.flagCode).hid = s.hid := rfl
@[simp] theorem State.flagCode_cfg : (s.flagCode).cfg = s.cfg := rfl
@[simp] theorem State.flagCode_pending : (s.flagCode).pending = s.pending := rfl
@[simp] theorem State.flagCode_answers : (s.flagCode).answers = s.answers := rfl

/-! ### `hardReset` -/

@[simp] theorem State.hardReset_h : (s.hardReset).h = State.reset.h := rfl
@[simp] theorem State.hardReset_w : (s.hardReset).w = State.reset.w := rfl
@[simp] theorem State.hardReset_dig : (s.hardReset).dig = State.reset.dig := rfl
@[simp] theorem State.hardReset_sec : (s.hardReset).sec = State.reset.sec := rfl
@[simp] theorem State.hardReset_key : (s.hardReset).key = State.reset.key := rfl
@[simp] theorem State.hardReset_msg : (s.hardReset).msg = State.reset.msg := rfl
@[simp] theorem State.hardReset_bufidx : (s.hardReset).bufidx = State.reset.bufidx := rfl
@[simp] theorem State.hardReset_time : (s.hardReset).time = State.reset.time := rfl
@[simp] theorem State.hardReset_offset : (s.hardReset).offset = State.reset.offset := rfl
@[simp] theorem State.hardReset_value : (s.hardReset).value = State.reset.value := rfl
@[simp] theorem State.hardReset_code : (s.hardReset).code = State.reset.code := rfl
@[simp] theorem State.hardReset_codebcd : (s.hardReset).codebcd = State.reset.codebcd := rfl
@[simp] theorem State.hardReset_dv : (s.hardReset).dv = State.reset.dv := rfl
@[simp] theorem State.hardReset_cv : (s.hardReset).cv = State.reset.cv := rfl
@[simp] theorem State.hardReset_err : (s.hardReset).err = State.reset.err := rfl
@[simp] theorem State.hardReset_nosec : (s.hardReset).nosec = State.reset.nosec := rfl
@[simp] theorem State.hardReset_ill : (s.hardReset).ill = State.reset.ill := rfl
@[simp] theorem State.hardReset_ovf : (s.hardReset).ovf = State.reset.ovf := rfl
@[simp] theorem State.hardReset_kblk : (s.hardReset).kblk = State.reset.kblk := rfl
@[simp] theorem State.hardReset_hid : (s.hardReset).hid = State.reset.hid := rfl
@[simp] theorem State.hardReset_cfg : (s.hardReset).cfg = s.cfg := rfl
@[simp] theorem State.hardReset_pending : (s.hardReset).pending = s.pending := rfl
@[simp] theorem State.hardReset_answers : (s.hardReset).answers = s.answers := rfl

/-! ### `decodeSecret` -/

@[simp] theorem State.decodeSecret_h : (s.decodeSecret).h = s.h := rfl
@[simp] theorem State.decodeSecret_w : (s.decodeSecret).w = s.w := rfl
@[simp] theorem State.decodeSecret_dig : (s.decodeSecret).dig = s.dig := rfl
@[simp] theorem State.decodeSecret_sec : (s.decodeSecret).sec = s.sec := rfl
@[simp] theorem State.decodeSecret_key : (s.decodeSecret).key = b32decode s.sec := rfl
@[simp] theorem State.decodeSecret_msg : (s.decodeSecret).msg = s.msg := rfl
@[simp] theorem State.decodeSecret_bufidx : (s.decodeSecret).bufidx = s.bufidx := rfl
@[simp] theorem State.decodeSecret_time : (s.decodeSecret).time = s.time := rfl
@[simp] theorem State.decodeSecret_offset : (s.decodeSecret).offset = s.offset := rfl
@[simp] theorem State.decodeSecret_value : (s.decodeSecret).value = s.value := rfl
@[simp] theorem State.decodeSecret_code : (s.decodeSecret).code = s.code := rfl
@[simp] theorem State.decodeSecret_codebcd : (s.decodeSecret).codebcd = s.codebcd := rfl
@[simp] theorem State.decodeSecret_dv : (s.decodeSecret).dv = s.dv := rfl
@[simp] theorem State.decodeSecret_cv : (s.decodeSecret).cv = s.cv := rfl
@[simp] theorem State.decodeSecret_err : (s.decodeSecret).err = s.err := rfl
@[simp] theorem State.decodeSecret_nosec : (s.decodeSecret).nosec = s.nosec := rfl
@[simp] theorem State.decodeSecret_ill : (s.decodeSecret).ill = s.ill := rfl
@[simp] theorem State.decodeSecret_ovf : (s.decodeSecret).ovf = s.ovf := rfl
@[simp] theorem State.decodeSecret_kblk : (s.decodeSecret).kblk = s.kblk := rfl
@[simp] theorem State.decodeSecret_hid : (s.decodeSecret).hid = { s.hid with acc := 0, nb := 0 } := rfl
@[simp] theorem State.decodeSecret_cfg : (s.decodeSecret).cfg = s.cfg := rfl
@[simp] theorem State.decodeSecret_pending : (s.decodeSecret).pending = s.pending := rfl
@[simp] theorem State.decodeSecret_answers : (s.decodeSecret).answers = s.answers := rfl

/-! ### `discardBits` -/

@[simp] theorem State.discardBits_h : (s.discardBits).h = s.h := rfl
@[simp] theorem State.discardBits_w : (s.discardBits).w = s.w := rfl
@[simp] theorem State.discardBits_dig : (s.discardBits).dig = s.dig := rfl
@[simp] theorem State.discardBits_sec : (s.discardBits).sec = s.sec := rfl
@[simp] theorem State.discardBits_key : (s.discardBits).key = s.key := rfl
@[simp] theorem State.discardBits_msg : (s.discardBits).msg = s.msg := rfl
@[simp] theorem State.discardBits_bufidx : (s.discardBits).bufidx = s.bufidx := rfl
@[simp] theorem State.discardBits_time : (s.discardBits).time = s.time := rfl
@[simp] theorem State.discardBits_offset : (s.discardBits).offset = s.offset := rfl
@[simp] theorem State.discardBits_value : (s.discardBits).value = s.value := rfl
@[simp] theorem State.discardBits_code : (s.discardBits).code = s.code := rfl
@[simp] theorem State.discardBits_codebcd : (s.discardBits).codebcd = s.codebcd := rfl
@[simp] theorem State.discardBits_dv : (s.discardBits).dv = s.dv := rfl
@[simp] theorem State.discardBits_cv : (s.discardBits).cv = s.cv := rfl
@[simp] theorem State.discardBits_err : (s.discardBits).err = s.err := rfl
@[simp] theorem State.discardBits_nosec : (s.discardBits).nosec = s.nosec := rfl
@[simp] theorem State.discardBits_ill : (s.discardBits).ill = s.ill := rfl
@[simp] theorem State.discardBits_ovf : (s.discardBits).ovf = s.ovf := rfl
@[simp] theorem State.discardBits_kblk : (s.discardBits).kblk = s.kblk := rfl
@[simp] theorem State.discardBits_hid : (s.discardBits).hid = { s.hid with acc := 0, nb := 0 } := rfl
@[simp] theorem State.discardBits_cfg : (s.discardBits).cfg = s.cfg := rfl
@[simp] theorem State.discardBits_pending : (s.discardBits).pending = s.pending := rfl
@[simp] theorem State.discardBits_answers : (s.discardBits).answers = s.answers := rfl

/-! ### `shinit` -/

@[simp] theorem State.shinit_h : (s.shinit).h = iv := rfl
@[simp] theorem State.shinit_w : (s.shinit).w = s.w := rfl
@[simp] theorem State.shinit_dig : (s.shinit).dig = s.dig := rfl
@[simp] theorem State.shinit_sec : (s.shinit).sec = s.sec := rfl
@[simp] theorem State.shinit_key : (s.shinit).key = s.key := rfl
@[simp] theorem State.shinit_msg : (s.shinit).msg = s.msg := rfl
@[simp] theorem State.shinit_bufidx : (s.shinit).bufidx = s.bufidx := rfl
@[simp] theorem State.shinit_time : (s.shinit).time = s.time := rfl
@[simp] theorem State.shinit_offset : (s.shinit).offset = s.offset := rfl
@[simp] theorem State.shinit_value : (s.shinit).value = s.value := rfl
@[simp] theorem State.shinit_code : (s.shinit).code = s.code := rfl
@[simp] theorem State.shinit_codebcd : (s.shinit).codebcd = s.codebcd := rfl
@[simp] theorem State.shinit_dv : (s.shinit).dv = s.dv := rfl
@[simp] theorem State.shinit_cv : (s.shinit).cv = s.cv := rfl
@[simp] theorem State.shinit_err : (s.shinit).err = s.err := rfl
@[simp] theorem State.shinit_nosec : (s.shinit).nosec = s.nosec := rfl
@[simp] theorem State.shinit_ill : (s.shinit).ill = s.ill := rfl
@[simp] theorem State.shinit_ovf : (s.shinit).ovf = s.ovf := rfl
@[simp] theorem State.shinit_kblk : (s.shinit).kblk = s.kblk := rfl
@[simp] theorem State.shinit_hid : (s.shinit).hid = s.hid := rfl
@[simp] theorem State.shinit_cfg : (s.shinit).cfg = s.cfg := rfl
@[simp] theorem State.shinit_pending : (s.shinit).pending = s.pending := rfl
@[simp] theorem State.shinit_answers : (s.shinit).answers = s.answers := rfl

/-! ### `loadBlock` -/

@[simp] theorem State.loadBlock_h (blk : List Byte) : (s.loadBlock blk).h = s.h := rfl
@[simp] theorem State.loadBlock_w (blk : List Byte) : (s.loadBlock blk).w = wordsOfBlock blk := rfl
@[simp] theorem State.loadBlock_dig (blk : List Byte) : (s.loadBlock blk).dig = s.dig := rfl
@[simp] theorem State.loadBlock_sec (blk : List Byte) : (s.loadBlock blk).sec = s.sec := rfl
@[simp] theorem State.loadBlock_key (blk : List Byte) : (s.loadBlock blk).key = s.key := rfl
@[simp] theorem State.loadBlock_msg (blk : List Byte) : (s.loadBlock blk).msg = s.msg := rfl
@[simp] theorem State.loadBlock_bufidx (blk : List Byte) : (s.loadBlock blk).bufidx = s.bufidx := rfl
@[simp] theorem State.loadBlock_time (blk : List Byte) : (s.loadBlock blk).time = s.time := rfl
@[simp] theorem State.loadBlock_offset (blk : List Byte) : (s.loadBlock blk).offset = s.offset := rfl
@[simp] theorem State.loadBlock_value (blk : List Byte) : (s.loadBlock blk).value = s.value := rfl
@[simp] theorem State.loadBlock_code (blk : List Byte) : (s.loadBlock blk).code = s.code := rfl
@[simp] theorem State.loadBlock_codebcd (blk : List Byte) : (s.loadBlock blk).codebcd = s.codebcd := rfl
@[simp] theorem State.loadBlock_dv (blk : List Byte) : (s.loadBlock blk).dv = s.dv := rfl
@[simp] theorem State.loadBlock_cv (blk : List Byte) : (s.loadBlock blk).cv = s.cv := rfl
@[simp] theorem State.loadBlock_err (blk : List Byte) : (s.loadBlock blk).err = s.err := rfl
@[simp] theorem State.loadBlock_nosec (blk : List Byte) : (s.loadBlock blk).nosec = s.nosec := rfl
@[simp] theorem State.loadBlock_ill (blk : List Byte) : (s.loadBlock blk).ill = s.ill := rfl
@[simp] theorem State.loadBlock_ovf (blk : List Byte) : (s.loadBlock blk).ovf = s.ovf := rfl
@[simp] theorem State.loadBlock_kblk (blk : List Byte) : (s.loadBlock blk).kblk = s.kblk := rfl
@[simp] theorem State.loadBlock_hid (blk : List Byte) : (s.loadBlock blk).hid = { s.hid with phase := { s.hid.phase with block := s.hid.phase.block + 1 } } := rfl
@[simp] theorem State.loadBlock_cfg (blk : List Byte) : (s.loadBlock blk).cfg = s.cfg := rfl
@[simp] theorem State.loadBlock_pending (blk : List Byte) : (s.loadBlock blk).pending = s.pending := rfl
@[simp] theorem State.loadBlock_answers (blk : List Byte) : (s.loadBlock blk).answers = s.answers := rfl

/-! ### `shblk` -/

@[simp] theorem State.shblk_h : (s.shblk).h = compress s.h s.w := rfl
@[simp] theorem State.shblk_w : (s.shblk).w = s.w := rfl
@[simp] theorem State.shblk_dig : (s.shblk).dig = s.dig := rfl
@[simp] theorem State.shblk_sec : (s.shblk).sec = s.sec := rfl
@[simp] theorem State.shblk_key : (s.shblk).key = s.key := rfl
@[simp] theorem State.shblk_msg : (s.shblk).msg = s.msg := rfl
@[simp] theorem State.shblk_bufidx : (s.shblk).bufidx = s.bufidx := rfl
@[simp] theorem State.shblk_time : (s.shblk).time = s.time := rfl
@[simp] theorem State.shblk_offset : (s.shblk).offset = s.offset := rfl
@[simp] theorem State.shblk_value : (s.shblk).value = s.value := rfl
@[simp] theorem State.shblk_code : (s.shblk).code = s.code := rfl
@[simp] theorem State.shblk_codebcd : (s.shblk).codebcd = s.codebcd := rfl
@[simp] theorem State.shblk_dv : (s.shblk).dv = s.dv := rfl
@[simp] theorem State.shblk_cv : (s.shblk).cv = s.cv := rfl
@[simp] theorem State.shblk_err : (s.shblk).err = s.err := rfl
@[simp] theorem State.shblk_nosec : (s.shblk).nosec = s.nosec := rfl
@[simp] theorem State.shblk_ill : (s.shblk).ill = s.ill := rfl
@[simp] theorem State.shblk_ovf : (s.shblk).ovf = s.ovf := rfl
@[simp] theorem State.shblk_kblk : (s.shblk).kblk = s.kblk := rfl
@[simp] theorem State.shblk_hid : (s.shblk).hid = { s.hid with ws := schedule s.w, regs := roundsOfBlock s.h s.w, t := 80 } := rfl
@[simp] theorem State.shblk_cfg : (s.shblk).cfg = s.cfg := rfl
@[simp] theorem State.shblk_pending : (s.shblk).pending = s.pending := rfl
@[simp] theorem State.shblk_answers : (s.shblk).answers = s.answers := rfl

/-! ### `storeDigest` -/

@[simp] theorem State.storeDigest_h : (s.storeDigest).h = s.h := rfl
@[simp] theorem State.storeDigest_w : (s.storeDigest).w = s.w := rfl
@[simp] theorem State.storeDigest_dig : (s.storeDigest).dig = digest s.h := rfl
@[simp] theorem State.storeDigest_sec : (s.storeDigest).sec = s.sec := rfl
@[simp] theorem State.storeDigest_key : (s.storeDigest).key = s.key := rfl
@[simp] theorem State.storeDigest_msg : (s.storeDigest).msg = s.msg := rfl
@[simp] theorem State.storeDigest_bufidx : (s.storeDigest).bufidx = s.bufidx := rfl
@[simp] theorem State.storeDigest_time : (s.storeDigest).time = s.time := rfl
@[simp] theorem State.storeDigest_offset : (s.storeDigest).offset = s.offset := rfl
@[simp] theorem State.storeDigest_value : (s.storeDigest).value = s.value := rfl
@[simp] theorem State.storeDigest_code : (s.storeDigest).code = s.code := rfl
@[simp] theorem State.storeDigest_codebcd : (s.storeDigest).codebcd = s.codebcd := rfl
@[simp] theorem State.storeDigest_dv : (s.storeDigest).dv = s.dv := rfl
@[simp] theorem State.storeDigest_cv : (s.storeDigest).cv = s.cv := rfl
@[simp] theorem State.storeDigest_err : (s.storeDigest).err = s.err := rfl
@[simp] theorem State.storeDigest_nosec : (s.storeDigest).nosec = s.nosec := rfl
@[simp] theorem State.storeDigest_ill : (s.storeDigest).ill = s.ill := rfl
@[simp] theorem State.storeDigest_ovf : (s.storeDigest).ovf = s.ovf := rfl
@[simp] theorem State.storeDigest_kblk : (s.storeDigest).kblk = s.kblk := rfl
@[simp] theorem State.storeDigest_hid : (s.storeDigest).hid = s.hid := rfl
@[simp] theorem State.storeDigest_cfg : (s.storeDigest).cfg = s.cfg := rfl
@[simp] theorem State.storeDigest_pending : (s.storeDigest).pending = s.pending := rfl
@[simp] theorem State.storeDigest_answers : (s.storeDigest).answers = s.answers := rfl

/-! ### `timeStep` -/

@[simp] theorem State.timeStep_h : (s.timeStep).h = s.h := rfl
@[simp] theorem State.timeStep_w : (s.timeStep).w = s.w := rfl
@[simp] theorem State.timeStep_dig : (s.timeStep).dig = s.dig := rfl
@[simp] theorem State.timeStep_sec : (s.timeStep).sec = s.sec := rfl
@[simp] theorem State.timeStep_key : (s.timeStep).key = s.key := rfl
@[simp] theorem State.timeStep_msg : (s.timeStep).msg = counterBytes s.time := rfl
@[simp] theorem State.timeStep_bufidx : (s.timeStep).bufidx = s.bufidx := rfl
@[simp] theorem State.timeStep_time : (s.timeStep).time = s.time := rfl
@[simp] theorem State.timeStep_offset : (s.timeStep).offset = s.offset := rfl
@[simp] theorem State.timeStep_value : (s.timeStep).value = s.value := rfl
@[simp] theorem State.timeStep_code : (s.timeStep).code = s.code := rfl
@[simp] theorem State.timeStep_codebcd : (s.timeStep).codebcd = s.codebcd := rfl
@[simp] theorem State.timeStep_dv : (s.timeStep).dv = s.dv := rfl
@[simp] theorem State.timeStep_cv : (s.timeStep).cv = s.cv := rfl
@[simp] theorem State.timeStep_err : (s.timeStep).err = s.err := rfl
@[simp] theorem State.timeStep_nosec : (s.timeStep).nosec = s.nosec := rfl
@[simp] theorem State.timeStep_ill : (s.timeStep).ill = s.ill := rfl
@[simp] theorem State.timeStep_ovf : (s.timeStep).ovf = s.ovf := rfl
@[simp] theorem State.timeStep_kblk : (s.timeStep).kblk = s.kblk := rfl
@[simp] theorem State.timeStep_hid : (s.timeStep).hid = s.hid := rfl
@[simp] theorem State.timeStep_cfg : (s.timeStep).cfg = s.cfg := rfl
@[simp] theorem State.timeStep_pending : (s.timeStep).pending = s.pending := rfl
@[simp] theorem State.timeStep_answers : (s.timeStep).answers = s.answers := rfl

/-! ### `truncate` -/

@[simp] theorem State.truncate_h : (s.truncate).h = s.h := rfl
@[simp] theorem State.truncate_w : (s.truncate).w = s.w := rfl
@[simp] theorem State.truncate_dig : (s.truncate).dig = s.dig := rfl
@[simp] theorem State.truncate_sec : (s.truncate).sec = s.sec := rfl
@[simp] theorem State.truncate_key : (s.truncate).key = s.key := rfl
@[simp] theorem State.truncate_msg : (s.truncate).msg = s.msg := rfl
@[simp] theorem State.truncate_bufidx : (s.truncate).bufidx = s.bufidx := rfl
@[simp] theorem State.truncate_time : (s.truncate).time = s.time := rfl
@[simp] theorem State.truncate_offset : (s.truncate).offset = truncOffset s.dig := rfl
@[simp] theorem State.truncate_value : (s.truncate).value = truncValue s.dig := rfl
@[simp] theorem State.truncate_code : (s.truncate).code = truncCode (truncValue s.dig) := rfl
@[simp] theorem State.truncate_codebcd : (s.truncate).codebcd = codeToBcd (truncCode (truncValue s.dig)) := rfl
@[simp] theorem State.truncate_dv : (s.truncate).dv = s.dv := rfl
@[simp] theorem State.truncate_cv : (s.truncate).cv = s.cv := rfl
@[simp] theorem State.truncate_err : (s.truncate).err = s.err := rfl
@[simp] theorem State.truncate_nosec : (s.truncate).nosec = s.nosec := rfl
@[simp] theorem State.truncate_ill : (s.truncate).ill = s.ill := rfl
@[simp] theorem State.truncate_ovf : (s.truncate).ovf = s.ovf := rfl
@[simp] theorem State.truncate_kblk : (s.truncate).kblk = s.kblk := rfl
@[simp] theorem State.truncate_hid : (s.truncate).hid = s.hid := rfl
@[simp] theorem State.truncate_cfg : (s.truncate).cfg = s.cfg := rfl
@[simp] theorem State.truncate_pending : (s.truncate).pending = s.pending := rfl
@[simp] theorem State.truncate_answers : (s.truncate).answers = s.answers := rfl

/-! ### `present` -/

@[simp] theorem State.present_h (e : PortEvent) : (s.present e).h = s.h := rfl
@[simp] theorem State.present_w (e : PortEvent) : (s.present e).w = s.w := rfl
@[simp] theorem State.present_dig (e : PortEvent) : (s.present e).dig = s.dig := rfl
@[simp] theorem State.present_sec (e : PortEvent) : (s.present e).sec = s.sec := rfl
@[simp] theorem State.present_key (e : PortEvent) : (s.present e).key = s.key := rfl
@[simp] theorem State.present_msg (e : PortEvent) : (s.present e).msg = s.msg := rfl
@[simp] theorem State.present_bufidx (e : PortEvent) : (s.present e).bufidx = s.bufidx := rfl
@[simp] theorem State.present_time (e : PortEvent) : (s.present e).time = s.time := rfl
@[simp] theorem State.present_offset (e : PortEvent) : (s.present e).offset = s.offset := rfl
@[simp] theorem State.present_value (e : PortEvent) : (s.present e).value = s.value := rfl
@[simp] theorem State.present_code (e : PortEvent) : (s.present e).code = s.code := rfl
@[simp] theorem State.present_codebcd (e : PortEvent) : (s.present e).codebcd = s.codebcd := rfl
@[simp] theorem State.present_dv (e : PortEvent) : (s.present e).dv = s.dv := rfl
@[simp] theorem State.present_cv (e : PortEvent) : (s.present e).cv = s.cv := rfl
@[simp] theorem State.present_err (e : PortEvent) : (s.present e).err = s.err := rfl
@[simp] theorem State.present_nosec (e : PortEvent) : (s.present e).nosec = s.nosec := rfl
@[simp] theorem State.present_ill (e : PortEvent) : (s.present e).ill = s.ill := rfl
@[simp] theorem State.present_ovf (e : PortEvent) : (s.present e).ovf = s.ovf := rfl
@[simp] theorem State.present_kblk (e : PortEvent) : (s.present e).kblk = s.kblk := rfl
@[simp] theorem State.present_hid (e : PortEvent) : (s.present e).hid = s.hid := rfl
@[simp] theorem State.present_cfg (e : PortEvent) : (s.present e).cfg = s.cfg := rfl
@[simp] theorem State.present_pending (e : PortEvent) : (s.present e).pending = e :: s.pending := rfl
@[simp] theorem State.present_answers (e : PortEvent) : (s.present e).answers = s.answers := rfl

/-! ### `raise`, whatever the condition -/

@[simp] theorem State.raise_h (c : Condition) : (s.raise c).h = s.h := by cases c <;> rfl
@[simp] theorem State.raise_w (c : Condition) : (s.raise c).w = s.w := by cases c <;> rfl
@[simp] theorem State.raise_dig (c : Condition) : (s.raise c).dig = s.dig := by cases c <;> rfl
@[simp] theorem State.raise_sec (c : Condition) : (s.raise c).sec = s.sec := by cases c <;> rfl
@[simp] theorem State.raise_msg (c : Condition) : (s.raise c).msg = s.msg := by cases c <;> rfl
@[simp] theorem State.raise_bufidx (c : Condition) : (s.raise c).bufidx = s.bufidx := by cases c <;> rfl
@[simp] theorem State.raise_time (c : Condition) : (s.raise c).time = s.time := by cases c <;> rfl
@[simp] theorem State.raise_offset (c : Condition) : (s.raise c).offset = s.offset := by cases c <;> rfl
@[simp] theorem State.raise_value (c : Condition) : (s.raise c).value = s.value := by cases c <;> rfl
@[simp] theorem State.raise_code (c : Condition) : (s.raise c).code = s.code := by cases c <;> rfl
@[simp] theorem State.raise_codebcd (c : Condition) : (s.raise c).codebcd = s.codebcd := by cases c <;> rfl
@[simp] theorem State.raise_dv (c : Condition) : (s.raise c).dv = s.dv := by cases c <;> rfl
@[simp] theorem State.raise_kblk (c : Condition) : (s.raise c).kblk = s.kblk := by cases c <;> rfl
@[simp] theorem State.raise_hid (c : Condition) : (s.raise c).hid = s.hid := by cases c <;> rfl
@[simp] theorem State.raise_cfg (c : Condition) : (s.raise c).cfg = s.cfg := by cases c <;> rfl
@[simp] theorem State.raise_pending (c : Condition) : (s.raise c).pending = s.pending := by cases c <;> rfl
@[simp] theorem State.raise_answers (c : Condition) : (s.raise c).answers = s.answers := by cases c <;> rfl

/-! ### `raise`, by condition (R302 to R305) -/

@[simp] theorem State.raise_invalidSecret :
    s.raise .invalidSecret = { s with err := true, nosec := false, cv := false, key := [] } := rfl
@[simp] theorem State.raise_noSecret :
    s.raise .noSecret = { s with nosec := true, err := false, cv := false, key := [] } := rfl
@[simp] theorem State.raise_illegalAccess : s.raise .illegalAccess = { s with ill := true } := rfl
@[simp] theorem State.raise_overflow : s.raise .overflow = { s with ovf := true } := rfl

end Sys2Proof.Machine
end

