-- ==== Sys2Proof/Tests/Slice0.lean ====
section
/-! SUPPORT. Tests. Expected values come from spec/opcode_table.json, from 95_test_vectors.md (the vector is named) and from
the rule named. `witness_…` shows that the hypotheses of an obligation can be met. -/

namespace Sys2Proof.Tests

open Sys2Proof.Machine

/-- What `f` sees in the next state. -/
def after {α : Type} (o : Host.Outcome State Fault Refusal) (f : State → α) : Option α :=
  match o with
  | .next s => some (f s)
  | .fault _ => none
  | .refused _ => none

/-- Each word decodes to the instruction beside it. -/
abbrev decodesTo (rows : List (Transaction × Instr)) : Prop := ∀ r ∈ rows, decode r.1 = r.2

/-- The word of a transaction written out bit by bit: `wr`, the six bits of `n`, the 32 bits of `data` (R90). -/
def bitsWord (bits : List Nat) : Transaction := BitVec.ofNat 39 (bits.foldl (fun n b => 2 * n + b) 0)

/-! ### Well-formedness -/

theorem test_wellFormed_refuses_command_as_illegal : (Instr.illcmd 0x22).wellFormed = false := by decide
theorem test_wellFormed_refuses_nop_as_illegal : (Instr.illcmd 0x00).wellFormed = false := by decide
theorem test_wellFormed_takes_illegal : (Instr.illcmd 0x05).wellFormed = true ∧ (Instr.illcmd 0x122).wellFormed = true := by decide

/-! ### Decoding, a word per row of the table -/

theorem test_decode_rows_0 : decodesTo [
    (0x4000000000, .nop),
    (0x4000000001, .reset),
    (0x4000000002, .clrsec),
    (0x4000000003, .clrkey),
    (0x4000000004, .clrmsg),
    (0x4000000010, .b32dec),
    (0x4000000020, .shinit),
    (0x4000000021, .shblk),
    (0x4000000022, .sha1),
    (0x4000000030, .hmac),
    (0x4000000040, .tstep),
    (0x4000000041, .trunc)] := by decide

theorem test_decode_rows_1 : decodesTo [
    (0x4000000042, .totp),
    (0x4000000005, .illcmd 0x00000005),
    (0x4080000022, .illcmd 0x80000022),
    (0x42454021D7, .wrTimelo 0x454021D7),
    (0x43E3779B90, .wrTimehi 0xE3779B90),
    (0x4481AF1549, .wrSecpush 0x81AF1549),
    (0x451FE68F02, .wrKeypush 0x1FE68F02),
    (0x46BE1E08BB, .wrMsgpush 0xBE1E08BB),
    (0x475C558274, .wrBufidx 0x5C558274),
    (0x60FA8CFC2D, .wrW 0 0xFA8CFC2D),
    (0x6FFA8CFC2D, .wrW 15 0xFA8CFC2D),
    (0x4198C475E6, .wrStatus 0x98C475E6)] := by decide

theorem test_decode_rows_2 : decodesTo [
    (0x4836FBEF9F, .wrSeclen 0x36FBEF9F),
    (0x49D5336958, .wrKeylen 0xD5336958),
    (0x4A736AE311, .wrMsglen 0x736AE311),
    (0x4B11A25CCA, .wrSecrd 0x11A25CCA),
    (0x4CAFD9D683, .wrKeyrd 0xAFD9D683),
    (0x4D4E11503C, .wrMsgrd 0x4E11503C),
    (0x50EC48C9F5, .wrH0 0xEC48C9F5),
    (0x518A8043AE, .wrH1 0x8A8043AE),
    (0x5228B7BD67, .wrH2 0x28B7BD67),
    (0x53C6EF3720, .wrH3 0xC6EF3720),
    (0x546526B0D9, .wrH4 0x6526B0D9),
    (0x58035E2A92, .wrDig0 0x035E2A92)] := by decide

theorem test_decode_rows_3 : decodesTo [
    (0x59A195A44B, .wrDig1 0xA195A44B),
    (0x5A3FCD1E04, .wrDig2 0x3FCD1E04),
    (0x5BDE0497BD, .wrDig3 0xDE0497BD),
    (0x5C7C3C1176, .wrDig4 0x7C3C1176),
    (0x5D1A738B2F, .wrOffset 0x1A738B2F),
    (0x5EB8AB04E8, .wrValue 0xB8AB04E8),
    (0x5F56E27EA1, .wrCode 0x56E27EA1),
    (0x70F519F85A, .wrCodebcd 0xF519F85A),
    (0x4E93517213, .wrRsv0E 0x93517213),
    (0x4F3188EBCC, .wrRsv0F 0x3188EBCC),
    (0x55CFC06585, .wrRsv15 0xCFC06585),
    (0x566DF7DF3E, .wrRsv16 0x6DF7DF3E)] := by decide

theorem test_decode_rows_4 : decodesTo [
    (0x570C2F58F7, .wrRsv17 0x0C2F58F7),
    (0x71AA66D2B0, .wrRsv31 0xAA66D2B0),
    (0x72489E4C69, .wrRsv32 0x489E4C69),
    (0x73E6D5C622, .wrRsv33 0xE6D5C622),
    (0x74850D3FDB, .wrRsv34 0x850D3FDB),
    (0x752344B994, .wrRsv35 0x2344B994),
    (0x76C17C334D, .wrRsv36 0xC17C334D),
    (0x775FB3AD06, .wrRsv37 0x5FB3AD06),
    (0x78FDEB26BF, .wrRsv38 0xFDEB26BF),
    (0x799C22A078, .wrRsv39 0x9C22A078),
    (0x7A3A5A1A31, .wrRsv3A 0x3A5A1A31),
    (0x7BD89193EA, .wrRsv3B 0xD89193EA)] := by decide

theorem test_decode_rows_5 : decodesTo [
    (0x7C76C90DA3, .wrRsv3C 0x76C90DA3),
    (0x7D1500875C, .wrRsv3D 0x1500875C),
    (0x7EB3380115, .wrRsv3E 0xB3380115),
    (0x7F516F7ACE, .wrRsv3F 0x516F7ACE),
    (0x01EFA6F487, .rdStatus),
    (0x028DDE6E40, .rdTimelo),
    (0x032C15E7F9, .rdTimehi),
    (0x07CA4D61B2, .rdBufidx),
    (0x086884DB6B, .rdSeclen),
    (0x0906BC5524, .rdKeylen),
    (0x0AA4F3CEDD, .rdMsglen),
    (0x0B432B4896, .rdSecrd)] := by decide

theorem test_decode_rows_6 : decodesTo [
    (0x0CE162C24F, .rdKeyrd),
    (0x0D7F9A3C08, .rdMsgrd),
    (0x101DD1B5C1, .rdH0),
    (0x11BC092F7A, .rdH1),
    (0x125A40A933, .rdH2),
    (0x13F87822EC, .rdH3),
    (0x1496AF9CA5, .rdH4),
    (0x1834E7165E, .rdDig0),
    (0x19D31E9017, .rdDig1),
    (0x1A715609D0, .rdDig2),
    (0x1B0F8D8389, .rdDig3),
    (0x1CADC4FD42, .rdDig4)] := by decide

theorem test_decode_rows_7 : decodesTo [
    (0x1D4BFC76FB, .rdOffset),
    (0x1EEA33F0B4, .rdValue),
    (0x1F886B6A6D, .rdCode),
    (0x3026A2E426, .rdCodebcd),
    (0x20C4DA5DDF, .rdW 0),
    (0x2FC4DA5DDF, .rdW 15),
    (0x006311D798, .rdCmd),
    (0x0401495151, .rdSecpush),
    (0x059F80CB0A, .rdKeypush),
    (0x063DB844C3, .rdMsgpush),
    (0x0EDBEFBE7C, .rdRsv0E),
    (0x0F7A273835, .rdRsv0F)] := by decide

theorem test_decode_rows_8 : decodesTo [
    (0x15185EB1EE, .rdRsv15),
    (0x16B6962BA7, .rdRsv16),
    (0x1754CDA560, .rdRsv17),
    (0x31F3051F19, .rdRsv31),
    (0x32913C98D2, .rdRsv32),
    (0x332F74128B, .rdRsv33),
    (0x34CDAB8C44, .rdRsv34),
    (0x356BE305FD, .rdRsv35),
    (0x360A1A7FB6, .rdRsv36),
    (0x37A851F96F, .rdRsv37),
    (0x3846897328, .rdRsv38),
    (0x39E4C0ECE1, .rdRsv39)] := by decide

theorem test_decode_rows_9 : decodesTo [
    (0x3A82F8669A, .rdRsv3A),
    (0x3B212FE053, .rdRsv3B),
    (0x3CBF675A0C, .rdRsv3C),
    (0x3D5D9ED3C5, .rdRsv3D),
    (0x3EFBD64D7E, .rdRsv3E),
    (0x3F9A0DC737, .rdRsv3F)] := by decide

/-- One word of each family, bit by bit from the layout of R90: HMAC, `wr BUFIDX, 3`, `wr DIG0`, `rd W9`, a reserved read. -/
theorem test_decode_bits :
    decode (bitsWord [1, 0,0,0,0,0,0, 0,0,0,0,0,0,0,0, 0,0,0,0,0,0,0,0, 0,0,0,0,0,0,0,0, 0,0,1,1,0,0,0,0]) = .hmac ∧
    decode (bitsWord [1, 0,0,0,1,1,1, 0,0,0,0,0,0,0,0, 0,0,0,0,0,0,0,0, 0,0,0,0,0,0,0,0, 0,0,0,0,0,0,1,1]) = .wrBufidx 3 ∧
    decode (bitsWord [1, 0,1,1,0,0,0, 1,0,0,0,0,0,0,0, 0,0,0,0,0,0,0,0, 0,0,0,0,0,0,0,0, 0,0,0,0,0,0,0,1]) = .wrDig0 0x80000001 ∧
    decode (bitsWord [0, 1,0,1,0,0,1, 0,0,0,0,0,0,0,0, 0,0,0,0,0,0,0,0, 0,0,0,0,0,0,0,0, 0,0,0,0,0,0,0,0]) = .rdW 9 ∧
    decode (bitsWord [0, 1,1,0,0,0,1, 0,0,0,0,0,0,0,0, 0,0,0,0,0,0,0,0, 0,0,0,0,0,0,0,0, 0,0,0,0,0,0,0,0]) = .rdRsv31 := by
  decide

/-- A number of more than 39 bits is no transaction (R90). -/
theorem test_decode_rejects_wide_number : (match decodeNat (2 ^ 39) with
    | .error .notATransaction => true
    | .ok _ => false) = true := by decide

/-! ### States the tests start from -/

/-- A block with the smallest capacities R9 allows for two symbols, both buffers of a secret full: SEC is `MY`. -/
def small : State := { State.reset with cfg := ⟨2, 1, 8⟩, sec := [0x4D, 0x59], key := [0x66], bufidx := 1 }

/-- SEC and its bytes for `JBSWY3DPEHPK3PXP`, the secret of V-B32-13. -/
def secret : List Byte :=
  [0x4A, 0x42, 0x53, 0x57, 0x59, 0x33, 0x44, 0x50, 0x45, 0x48, 0x50, 0x4B, 0x33, 0x50, 0x58, 0x50]

/-- A block with that secret loaded and the clock at 59. -/
def loaded : State := { State.reset with sec := secret, time := 59 }

/-- Digest bytes 00 to 13 (V-TRN-4). -/
def countingDigest : Vector Byte 20 := Vector.ofFn fun i => BitVec.ofNat 8 i

/-- The digest of V-TRN-3. -/
def rfcDigest : Vector Byte 20 :=
  #v[0x1F, 0x86, 0x98, 0x69, 0x0E, 0x02, 0xCA, 0x16, 0x61, 0x85, 0x50, 0xEF, 0x7F, 0x19, 0xDA, 0x8E, 0x94, 0x5B, 0x55, 0x5A]

/-! ### Commands -/

/-- R122: the port can reset a block that is not in its reset state. -/
theorem test_reset_clears : after (exec .reset loaded) (fun s => (s.sec, s.time)) = some ([], 0) := by decide

/-- R124. -/
theorem test_clrkey : after (exec .clrkey small) (fun s => (s.key, s.sec)) = some ([], [0x4D, 0x59]) := by decide

/-- V-B32-9: `MZXW6YTBOI` decodes to `foobar`, two bits left, which are discarded (R36). -/
theorem test_b32dec_foobar :
    after (exec .b32dec { State.reset with sec := [0x4D, 0x5A, 0x58, 0x57, 0x36, 0x59, 0x54, 0x42, 0x4F, 0x49] })
      (fun s => (s.key, (b32run s.sec).nb, s.hid.nb)) = some ([0x66, 0x6F, 0x6F, 0x62, 0x61, 0x72], 2, 0) := by decide +kernel

/-- V-B32-12: `M Z-X1W6`, with three symbols skipped. -/
theorem test_b32dec_skips :
    after (exec .b32dec { State.reset with sec := [0x4D, 0x20, 0x5A, 0x2D, 0x58, 0x31, 0x57, 0x36] })
      (fun s => s.key) = some [0x66, 0x6F, 0x6F] := by decide +kernel

/-- R124, R36: `sec "MY"`, B32DEC, CLRKEY leaves no bits of the key 0x66 in the accumulator. -/
theorem test_clrkey_after_decode : (match exec .b32dec { State.reset with sec := [0x4D, 0x59] } with
    | .next s => after (exec .clrkey s) fun t => (s.key, t.key, t.hid.acc, t.hid.nb)
    | .fault _ => none
    | .refused _ => none) = some ([0x66], [], 0, 0) := by decide +kernel

/-- Section 2.2, primitives. -/
theorem test_rotl32 : rotl32 0x12345678 5 = 0x468ACF02 ∧ rotl32 1 30 = 0x40000000 := by decide

/-- Section 2.2, round functions. -/
theorem test_roundFunction :
    roundFunction 0 0xFFFF0000 0xFF00FF00 0xF0F0F0F0 = 0xFF00F0F0 ∧
    roundFunction 20 0xFFFF0000 0xFF00FF00 0xF0F0F0F0 = 0xF00F0FF0 ∧
    roundFunction 59 0xFFFF0000 0xFF00FF00 0xF0F0F0F0 = 0xFFF0F000 := by decide

/-- V-SHB-1: SHBLK right after reset, without SHINIT. -/
theorem test_shblk_after_reset :
    after (exec .shblk State.reset) (fun s => s.h) = some #v[0x9E1547ED, 0x57EC91C2, 0x30FA8BC8, 0xC7785A54, 0xA7EFA5E3] := by
  decide +kernel

/-- V-SHA-1, the one complete example of DOC00. -/
theorem test_sha1_empty : after (exec .sha1 State.reset) (fun s => (s.dig.toList, s.dv, s.w[0])) =
    some ([0xDA, 0x39, 0xA3, 0xEE, 0x5E, 0x6B, 0x4B, 0x0D, 0x32, 0x55, 0xBF, 0xEF, 0x95, 0x60, 0x18, 0x90, 0xAF, 0xD8,
      0x07, 0x09], true, 0x80000000) := by
  decide +kernel

/-- V-HMAC-9 to V-HMAC-11: a key of 64 bytes is used as it is. -/
theorem test_keyBlock_of_64 : keyBlock (List.replicate 64 0x01) = Vector.replicate 64 0x01 := by decide +kernel

/-- V-HMAC-11: a key of 65 bytes is hashed first. -/
theorem test_shortKey_of_65 : shortKey (List.replicate 65 0x01) = (sha1 (List.replicate 65 0x01)).toList := if_pos (by decide)

/-- V-TST-7. -/
theorem test_tstep : after (exec .tstep { State.reset with time := 1111111109 }) (fun s => s.msg) =
    some [0, 0, 0, 0, 0x02, 0x35, 0x23, 0xEC] := by decide +kernel

/-- V-TST-14, the largest TIME. -/
theorem test_tstep_largest : after (exec .tstep { State.reset with time := 18446744073709551615 }) (fun s => s.msg) =
    some [0x08, 0x88, 0x88, 0x88, 0x88, 0x88, 0x88, 0x88] := by decide +kernel

/-- V-TRN-3, with DV set. -/
theorem test_trunc_rfc4226 : after (exec .trunc { State.reset with dig := rfcDigest, dv := true })
    (fun s => (s.offset, s.value, s.code, s.codebcd, s.cv)) = some (10, 0x50EF7F19, 872921, 0x872921, true) := by decide

/-- V-TRN-4, with DV clear: CV follows DV (R247). -/
theorem test_trunc_counting : after (exec .trunc { State.reset with dig := countingDigest, cv := true })
    (fun s => (s.offset, s.value, s.code, s.cv)) = some (3, 0x03040506, 595078, false) := by decide

/-- Section 2.4: CODE = 5924 is the string "005924". -/
theorem test_codeString : codeString 5924 = [0x30, 0x30, 0x35, 0x39, 0x32, 0x34] ∧ codeToBcd 5924 = 0x005924 := by decide

/-- V-TOTP-8: the secret of DOC00 in the second window. -/
theorem test_totp : after (exec .totp loaded) (fun s => (s.offset, s.value, s.code, s.cv)) = some (2, 0x79B6650A, 996554, true) := by
  decide +kernel

/-- R252: TOTP with SEC empty flags NOSEC and clears CV. -/
theorem test_totp_no_secret : after (exec .totp { State.reset with key := [1], err := true, cv := true })
    (fun s => (s.key, s.nosec, s.err, s.cv)) = some ([], true, false, false) := by decide +kernel

/-- R251: one alphabet symbol gives no key. -/
theorem test_totp_invalid_secret : after (exec .totp { State.reset with sec := [0x37], nosec := true })
    (fun s => (s.key, s.nosec, s.err, s.cv)) = some ([], false, true, false) := by decide +kernel

/-! ### Accesses -/

/-- R126, R127: TIMELO replaces the low half. -/
theorem test_time_halves :
    after (exec (.wrTimelo 0xA817C800) { State.reset with time := 0x0000000411111111 }) (fun s => s.time) =
        some 0x00000004A817C800 ∧
      after (exec (.wrTimehi 4) { State.reset with time := 0x00000009A817C800 }) (fun s => s.time) =
        some 0x00000004A817C800 := by decide

/-- R94, R128: a push takes the low byte. -/
theorem test_push_low_byte : after (exec (.wrSecpush 0xFFFFFF4D) State.reset) (fun s => (s.sec, s.ovf)) =
    some ([0x4D], false) := by decide

/-- R128 to R130: a push into a full buffer is dropped and flags OVF. -/
theorem test_push_full : after (exec (.wrSecpush 0x41) small) (fun s => (s.sec, s.ovf)) = some ([0x4D, 0x59], true) ∧
    after (exec (.wrKeypush 0x41) small) (fun s => (s.key, s.ovf)) = some ([0x66], true) ∧
    after (exec (.wrMsgpush 0x41) small) (fun s => (s.msg, s.ovf)) = some ([0x41], false) := by decide

/-- R132, R149: W15 is written, and read back. -/
theorem test_w15 : after (exec (.wrW 15 0x18) State.reset) (fun s => (s.w[15], s.w[14])) = some (0x18, 0) ∧
    after (exec (.rdW 15) { State.reset with w := State.reset.w.set 15 0x18 }) (fun s => s.answers) = some [0x18] := by decide

/-- R152, R153, R95: an illegal access sets ILL and nothing else. -/
theorem test_illegal_write : after (exec (.wrH0 0x67452301) small) id = some { small with ill := true } ∧
    after (exec (.wrRsv3F 1) small) id = some { small with ill := true } ∧
    after (exec (.illcmd 0x122) small) id = some { small with ill := true } := by decide

/-- R133: the six bits of STATUS. -/
theorem test_status : after (exec .rdStatus { State.reset with ovf := true, nosec := true, dv := true }) (fun s => s.answers) =
    some [0x29] ∧
    after (exec .rdStatus { State.reset with ill := true, err := true, cv := true }) (fun s => s.answers) = some [0x16] := by
  decide

/-- R140, R141, R142: the last element, and past the end. -/
theorem test_read_back : after (exec .rdSecrd small) (fun s => s.answers) = some [0x59] ∧
    after (exec .rdKeyrd small) (fun s => s.answers) = some [0x80000000] ∧
    after (exec .rdMsgrd small) (fun s => s.answers) = some [0x80000000] := by decide

/-- R144: DIG4 is the last four bytes. -/
theorem test_dig4 : after (exec .rdDig4 { State.reset with dig := countingDigest }) (fun s => s.answers) =
    some [0x10111213] := by decide

/-- R150, R151: empty reads return zero. -/
theorem test_empty_reads : after (exec .rdCmd small) (fun s => s.answers) = some [0] ∧
    after (exec .rdRsv0E small) (fun s => s.answers) = some [0] := by decide

/-! ### Steps -/

/-- The first step after reset runs the word placed for it (log 1). -/
theorem test_step_runs_fetch_word :
    after (step (State.reset.withFetchWord 39 0x4700000003)) id = some { State.reset with bufidx := 3 } := by decide

/-- R314: nothing pending, nothing happens. -/
theorem test_step_idle : after (step small) id = some small := by decide

/-! ### Witnesses -/

theorem witness_DecodeEncodeRoundTrip : (Instr.illcmd 0x122).wellFormed = true ∧ (Instr.wrW 15 0xFFFFFFFF).wellFormed = true := by
  decide

theorem witness_StepRunsDecodedAccess :
    let s := { small with pending := [.access 0x6F00000018, .hardReset] }
    s.pending = .access 0x6F00000018 :: [.hardReset] ∧ decode 0x6F00000018 = .wrW 15 0x18 := by decide

theorem witness_IdleStepHoldsState : small.pending = [] := by decide

theorem witness_ResetValues : { loaded with pending := [.hardReset, .access 0] }.pending = .hardReset :: [.access 0] := by decide

/-- The state `small` has the invariant, its buffers being at their capacities. -/
theorem witness_Inv : small.Inv ∧ small.sec.length = small.cfg.secCap ∧ small.key.length = small.cfg.keyCap := by
  refine ⟨?_, by decide, by decide⟩
  constructor <;> decide

/-- The hypotheses of StepKeepsInv, at a step that changes the state. -/
theorem witness_StepKeepsInv :
    let s := { small with pending := [.access 0x4600000041] }
    s.Inv ∧ step s = .next { small with msg := [0x41] } := by
  refine ⟨?_, rfl⟩
  constructor <;> decide

/-- The clauses of PushAppendsOrOverflows at their boundary. -/
theorem witness_PushAppendsOrOverflows :
    (let s := { small with sec := [0x4D], key := [], msg := [1, 2, 3, 4, 5, 6, 7] }
     s.sec.length < s.cfg.secCap ∧ s.key.length < s.cfg.keyCap ∧ s.msg.length < s.cfg.msgCap) ∧
    (let s := { small with msg := [1, 2, 3, 4, 5, 6, 7, 8] }
     ¬s.sec.length < s.cfg.secCap ∧ ¬s.key.length < s.cfg.keyCap ∧ ¬s.msg.length < s.cfg.msgCap) := by decide

theorem witness_IndexAndBlockWordsWritten : (14 : Fin 16) ≠ 15 ∧ (0 : Fin 16) ≠ 15 := by decide

theorem witness_IllegalAccessesSetIllOnly : Instr.wrStatus 1 ∈ readOnlyWrites 1 ∧ Instr.wrCodebcd 0xFFFFFFFF ∈ readOnlyWrites 0xFFFFFFFF ∧
    Instr.wrRsv0E 0 ∈ reservedWrites 0 ∧ Instr.wrRsv3F 7 ∈ reservedWrites 7 ∧ (Instr.illcmd 5).wellFormed = true ∧ (Instr.illcmd 0x43).wellFormed = true ∧ (Instr.illcmd 0x100).wellFormed = true := by
  decide

theorem witness_LengthsRead : small.Inv ∧ small.sec.length = 2 := ⟨witness_Inv.1, by decide⟩

/-- Each clause of ReadBackAtIndex, at the last element and one past it. -/
theorem witness_ReadBackAtIndex :
    (let s := { small with msg := [7, 8] }
     s.bufidx.toNat < s.sec.length ∧ s.key.length ≤ s.bufidx.toNat ∧ s.bufidx.toNat < s.msg.length) ∧
    (let s := { small with bufidx := 0 }
     s.bufidx.toNat < s.sec.length ∧ s.bufidx.toNat < s.key.length ∧ s.msg.length ≤ s.bufidx.toNat) ∧
    (let s := { small with bufidx := 2 }
     s.sec.length ≤ s.bufidx.toNat) := by decide

theorem witness_CodeRegistersRead :
    let s := { State.reset with value := 1999999, code := 999999, codebcd := 0x999999 }
    s.Inv ∧ s.code.toNat = 999999 := by
  refine ⟨?_, by decide⟩
  constructor <;> decide

theorem witness_EmptyReadsReturnZero : Instr.rdCmd ∈ writeOnlyReads ∧ Instr.rdMsgpush ∈ writeOnlyReads ∧
    Instr.rdRsv0E ∈ reservedReads ∧ Instr.rdRsv3F ∈ reservedReads := by decide

theorem witness_ReadsLeaveBlockAlone : Transaction.wr 0x1000000007 = 0 ∧ Transaction.wr 0x3F00000000 = 0 := by decide

/-- The ends of the two ranges of symbols, their neighbours, and a sequence with symbols and a byte (V-B32-4). -/
theorem witness_SymbolValuesAndBitString :
    [0x41, 0x5A, 0x32, 0x37].map symbolValue = [some 0, some 25, some 26, some 31] ∧
    (∀ c ∈ [0x40, 0x5B, 0x31, 0x38], symbolValue c = none) ∧
    1 < alphabetCount [0x4D, 0x59] ∧ 0 < (b32decodeByBits [0x4D, 0x59]).length := by decide +kernel

/-- The neighbours of the alphabet (section 2.1). -/
theorem witness_OtherSymbolsSkipped :
    ∀ c ∈ ([0x40, 0x5B, 0x31, 0x38, 0x61, 0x3D, 0x00, 0xFF] : List Byte),
      ¬(0x41 ≤ c.toNat ∧ c.toNat ≤ 0x5A) ∧ ¬(0x32 ≤ c.toNat ∧ c.toNat ≤ 0x37) := by decide

/-- The empty sequence, and the bytes of V-B32-8. -/
theorem witness_WholeGroupsDecodeOnto : 8 * ([] : List Byte).length % 40 = 0 ∧
    8 * ([0x66, 0x6F, 0x6F, 0x62, 0x61] : List Byte).length % 40 = 0 := by decide

/-- The four ranges of RoundFunctionAndConstant at their ends. -/
theorem witness_RoundFunctionAndConstant : 0 < 20 ∧ 19 < 20 ∧ (20 ≤ 20 ∧ 39 < 40) ∧ (40 ≤ 40 ∧ 59 < 60) ∧ 60 ≤ 60 ∧ 79 < 80 := by
  decide

theorem witness_RoundsStepByStep : 0 < 80 ∧ 79 < 80 := by decide

/-- The padded empty message has a first block, which is its last. -/
theorem witness_BlockWordsAndChain : 0 < (blocks []).length ∧ 0 + 1 = (blocks []).length := by decide +kernel

/-- Before CLRKEY the invariant holds and KEY is not empty. -/
theorem witness_HousekeepingCommands : small.Inv ∧ (∃ t, exec .clrkey small = .next t) ∧ small.key ≠ [] :=
  ⟨witness_Inv.1, ⟨_, rfl⟩, by decide⟩

theorem witness_ScheduleRecurrence : (0 < 16 ∧ 15 < 16) ∧ (16 < 80 ∧ 16 ≤ 16) ∧ (79 < 80 ∧ 16 ≤ 79) := by decide

theorem witness_CircularScheduleAgrees : 0 < 80 ∧ 16 < 80 ∧ 79 < 80 := by decide

/-- Lengths on both sides of the one-block limit (V-SHA-5, V-SHA-6). -/
theorem witness_PaddingShape : 8 * (List.replicate 55 (0x61 : Byte)).length < 2 ^ 64 ∧
    8 * (List.replicate 56 (0x61 : Byte)).length < 2 ^ 64 := by decide

theorem witness_KeyBlockShape : 64 < (List.replicate 65 (0x01 : Byte)).length ∧ (List.replicate 64 (0x01 : Byte)).length ≤ 64 := by
  decide

theorem witness_HmacBlockCounts : (counterBytes 59).length = 8 := by decide +kernel

theorem witness_DecimalFormOfCode : (999999 : BitVec 20).toNat ≤ 999999 ∧ (0 : BitVec 20).toNat ≤ 999999 := by decide

theorem witness_LastDigestByteNotInValue : (0xFA : Byte).toNat % 2 ^ 4 = (rfcDigest[19]).toNat % 2 ^ 4 := by decide

/-- The three outcomes of TOTP; the second at one alphabet symbol, the third at two. -/
theorem witness_TotpOutcomes : State.reset.sec = [] ∧
    ((([0x37] : List Byte) ≠ []) ∧ b32decode [0x37] = []) ∧ (([0x37, 0x37] : List Byte) ≠ [] ∧ b32decode [0x37, 0x37] ≠ []) := by
  decide +kernel

/-- Every TOTP answers a next state, so the hypothesis can be met from any state. -/
theorem witness_InvalidSecretCondition : ∃ t, exec .totp { State.reset with sec := [0x37] } = .next t ∧ t.err = true :=
  ⟨_, rfl, by decide +kernel⟩

/-- Two states in one window, with different messages, flags and digests. -/
theorem witness_TotpDependsOnSecretAndWindow :
    let s1 := { loaded with time := 30, msg := [1] }
    let s2 := { loaded with ill := true, dig := rfcDigest }
    s1.sec = s2.sec ∧ s1.time.toNat / 30 = s2.time.toNat / 30 ∧
      (∃ t1, exec .totp s1 = .next t1) ∧ ∃ t2, exec .totp s2 = .next t2 :=
  ⟨rfl, by decide, ⟨_, rfl⟩, _, rfl⟩

theorem witness_CachedKeyFormEqualsTotp : small.key = b32decode small.sec ∧ small.key ≠ [] := by decide +kernel

theorem witness_StickyFaultFlags :
    let s := { small with ill := true, ovf := true }
    exec .clrsec s = .next { s with sec := [] } ∧ Instr.clrsec ≠ .reset ∧ s.ill = true ∧ s.ovf = true :=
  ⟨rfl, by decide, rfl, rfl⟩

/-- Instructions that do change the columns of WritersOfEachState: SEC, KEY and KBLK, MSG, TIME, BUFIDX, W, ILL, OVF. -/
theorem witness_WritersOfEachState :
    after (exec .clrsec small) (fun t => t.sec == small.sec) = some false ∧
    after (exec .clrkey { small with kblk := Vector.replicate 64 1 }) (fun t => t.key == small.key || t.kblk == Vector.replicate 64 1) =
      some false ∧
    after (exec (.wrMsgpush 1) small) (fun t => t.msg == small.msg) = some false ∧
    after (exec (.wrTimelo 1) small) (fun t => t.time == small.time) = some false ∧
    after (exec (.wrBufidx 0) small) (fun t => t.bufidx == small.bufidx) = some false ∧
    after (exec (.wrW 0 1) small) (fun t => t.w == small.w) = some false ∧
    after (exec (.illcmd 5) small) (fun t => t.ill == small.ill) = some false ∧
    after (exec (.wrSecpush 1) small) (fun t => t.ovf == small.ovf) = some false := by decide

/-- The same for H (SHINIT), for the truncation outputs and CV (TRUNC), for DIG and DV (SHA1), for NOSEC (TOTP). -/
theorem witness_WritersOfEngineState :
    after (exec .shinit small) (fun t => t.h == small.h) = some false ∧
    after (exec .trunc { small with dig := rfcDigest, dv := true })
      (fun t => t.offset == 0 || t.value == 0 || t.code == 0 || t.codebcd == 0 || t.cv == false) = some false ∧
    after (exec .sha1 small) (fun t => t.dig == small.dig || t.dv == small.dv) = some false ∧
    after (exec .totp State.reset) (fun t => t.nosec == false) = some false ∧
    after (exec .totp { State.reset with sec := [0x37] }) (fun t => t.err == false) = some false := by decide +kernel

/-- Bytes that just fit each buffer. -/
theorem witness_ScriptsLoadOperands : ([0x41, 0x42] : List Byte).length ≤ small.cfg.secCap ∧
    ([0x41] : List Byte).length ≤ small.cfg.keyCap ∧ (List.replicate 8 (0x41 : Byte)).length ≤ small.cfg.msgCap ∧
    ([] : List Byte).length ≤ small.cfg.keyCap := by
  decide

/-- The clauses of NormalisedSecret for one character, at the ends of their ranges. -/
theorem witness_NormalisedSecret : (∀ c ∈ [0x09, 0x0D, 0x20], normalise [c] = []) ∧ normalise [0x08] = [0x08] ∧
    normalise [0x0E] = [0x0E] ∧ normalise [0x60] = [0x60] ∧ normalise [0x61] = [0x41] ∧ normalise [0x7A] = [0x5A] ∧
    normalise [0x7B] = [0x7B] ∧ normalise [255] = [255] ∧ normalise [256] = [0] := by decide

theorem witness_SecondsRemainingCountsDown : (30 : BitVec 64).toNat = (29 : BitVec 64).toNat + 1 ∧
    (31 : BitVec 64).toNat = (30 : BitVec 64).toNat + 1 := by decide

theorem witness_TickPublishesCode :
    let y : System := ⟨⟨.active, true, []⟩, loaded⟩
    y.sched.timer = true ∧ b32decode y.block.sec ≠ [] := by decide +kernel

theorem witness_TickPublishesInvalidSecret :
    let y : System := ⟨⟨.active, true, []⟩, { State.reset with sec := [0x37] }⟩
    y.sched.timer = true ∧ y.block.sec ≠ [] ∧ b32decode y.block.sec = [] := by decide +kernel

/-- The text `m y`, whose normalisation is `MY`, at the capacity, and `7`, which gives no key. -/
theorem witness_EntryPublishesExactlyOnce :
    (normalise [0x6D, 0x20, 0x79] = [0x4D, 0x59] ∧ (normalise [0x6D, 0x20, 0x79]).length ≤ small.cfg.secCap ∧
      b32decode (normalise [0x6D, 0x20, 0x79]) ≠ []) ∧
    normalise [0x37] ≠ [] ∧ (normalise [0x37]).length ≤ small.cfg.secCap ∧ b32decode (normalise [0x37]) = [] := by
  decide +kernel

/-- A secret of whitespace only normalises to nothing. -/
theorem witness_IdleClearsKeyAndStopsTicks : (⟨⟨.active, true, []⟩, loaded⟩ : System).sched.mode = .active ∧
    normalise [0x20, 0x09, 0x0D] = [] := by decide

end Sys2Proof.Tests
end

section
/-! PROOFS. The reset table (10_state.md R39). -/

namespace Sys2Proof.Machine

/-! ### What a reset does -/

/-- Of the state the machine starts in, a whole vector of zeros reads zero at every index; the rest are the table's values. -/
theorem atResetValues_reset : AtResetValues State.reset := by
  refine ⟨?h, ?w, ?dig, rfl, rfl, rfl, rfl, rfl, rfl, rfl, rfl, rfl, rfl, rfl, rfl, rfl, rfl, rfl, ?kblk, ?ws,
    rfl, rfl, rfl, rfl, rfl⟩
  case h | w | dig | kblk => intro i; simp [State.reset]
  case ws => intro i; simp [State.reset, Hidden.reset]

/-- The table speaks of the block alone, and a hard reset keeps only the configuration and the host's side. -/
theorem atResetValues_hardReset (s : State) : AtResetValues s.hardReset := by
  simpa [AtResetValues] using atResetValues_reset

@[simp] theorem exec_reset (s : State) : exec .reset s = .next s.hardReset := rfl

theorem step_of_pending_hardReset {s : State} {rest : List PortEvent} (hp : s.pending = .hardReset :: rest) :
    step s = .next { s with pending := rest }.hardReset := by
  simp [step, State.takeEvent, hp]

/-! ### The table, of every way to reset -/

/-- Settles O7: the start state has the values of the table, and the RESET command and the reset input both lead to
`State.hardReset`, which agrees with it on all the table speaks of. -/
theorem resetValues : Obligations.ResetValues :=
  ⟨atResetValues_reset,
    fun s => ⟨s.hardReset, exec_reset s, atResetValues_hardReset s⟩,
    fun _ _ hp => ⟨_, step_of_pending_hardReset hp, atResetValues_hardReset _⟩⟩

end Sys2Proof.Machine
end

section
/-! PROOFS. Illegal accesses (30_encoding.md R95, 40_host_port.md R152 and R153, 60_exceptions.md R304). -/

namespace Sys2Proof.Machine

/-! ### What an illegal access does -/

@[simp] theorem exec_illcmd (data : Word) (s : State) : exec (.illcmd data) s = .next { s with ill := true } := rfl

theorem exec_readOnlyWrite (data : Word) (s : State) :
    ∀ i ∈ readOnlyWrites data, exec i s = .next { s with ill := true } := by
  simp only [readOnlyWrites, List.mem_cons, List.not_mem_nil, or_false, forall_eq_or_imp, forall_eq]
  and_intros <;> rfl

theorem exec_reservedWrite (data : Word) (s : State) :
    ∀ i ∈ reservedWrites data, exec i s = .next { s with ill := true } := by
  simp only [reservedWrites, List.mem_cons, List.not_mem_nil, or_false, forall_eq_or_imp, forall_eq]
  and_intros <;> rfl

/-- The three kinds of illegal access have one effect (R304). -/
theorem exec_of_illegal {i : Instr} (h : Illegal i) (s : State) : exec i s = .next { s with ill := true } := by
  obtain ⟨data, rfl | hreadOnly | hreserved⟩ := h
  · exact exec_illcmd data s
  · exact exec_readOnlyWrite data s i hreadOnly
  · exact exec_reservedWrite data s i hreserved

/-! ### The statement -/

/-- Settles O16: each of its accesses is an illegal one in the sense of R304. That the word of the illegal command is no
command word is not needed, since the model takes every such word alike (log 18). -/
theorem illegalAccessesSetIllOnly : Obligations.IllegalAccessesSetIllOnly :=
  fun data s _ h => exec_of_illegal ⟨data, h.imp_left And.left⟩ s

end Sys2Proof.Machine
end

section
/-! PROOFS. The dispatch of a write of CMD (40_host_port.md R120). -/

namespace Sys2Proof.Machine

/-! ### The fields of a command word (R91) -/

theorem highBits_eq_zero_iff (v : Word) : v.extractLsb' 8 24 = 0 ↔ v.toNat / 2 ^ 8 = 0 := by
  have hlt : v.toNat / 2 ^ 8 < 2 ^ 24 := by omega
  rw [← BitVec.toNat_inj, BitVec.extractLsb'_toNat, Nat.shiftRight_eq_div_pow, Nat.mod_eq_of_lt hlt]
  rfl

theorem toNat_lowByte (v : Word) : (v.extractLsb' 0 8).toNat = v.toNat % 2 ^ 8 := by
  simp [BitVec.extractLsb'_toNat]

/-! ### What a write of CMD decodes to -/

theorem decode_cmdWrite (v : Word) : decode (.mk 1 0x00 v) = decodeCommand v := decode_write 0x00 v

/-- A bit above the low byte makes the word an illegal command (R91, R95). -/
theorem decodeCommand_of_high_ne {v : Word} (hv : v.toNat / 2 ^ 8 ≠ 0) : decodeCommand v = .illcmd v :=
  if_neg (mt (highBits_eq_zero_iff v).1 hv)

/-! ### The statement -/

/-- Settles O4: once the word is known to be its low byte, the decoder's cases are those of the pseudocode, one by one;
its last case is the one no opcode of R93 reaches. -/
theorem commandDispatch : Obligations.CommandDispatch := by
  intro v s
  rw [decode_cmdWrite]
  by_cases hv : v.toNat / 2 ^ 8 = 0
  · rw [if_neg (not_not.2 hv), decodeCommand, if_pos ((highBits_eq_zero_iff v).2 hv), toNat_lowByte]
    generalize v.toNat % 2 ^ 8 = op
    split
    case h_14 => simp_all only [imp_false, if_false, exec_illcmd]
    all_goals rfl
  · rw [if_pos hv, decodeCommand_of_high_ne hv, exec_illcmd]

end Sys2Proof.Machine
end

section
/-! PROOFS. Register writes (40_host_port.md R126 to R132). -/

namespace Sys2Proof.Machine

/-! ### The words written, as numbers -/

/-- A concatenation is the high part, shifted by the width of the low part, plus the low part. -/
theorem toNat_append_eq_add {m n : Nat} (x : BitVec m) (y : BitVec n) :
    (x ++ y).toNat = x.toNat * 2 ^ n + y.toNat := by
  rw [BitVec.toNat_append, ← Nat.shiftLeft_add_eq_or_of_lt y.isLt, Nat.shiftLeft_eq]

theorem toNat_timeLo (time : BitVec 64) : (timeLo time).toNat = time.toNat % 2 ^ 32 := by
  simp [timeLo, BitVec.extractLsb'_toNat]

theorem toNat_timeHi (time : BitVec 64) : (timeHi time).toNat = time.toNat / 2 ^ 32 := by
  have hlt : time.toNat / 2 ^ 32 < 2 ^ 32 := by omega
  rw [timeHi, BitVec.extractLsb'_toNat, Nat.shiftRight_eq_div_pow, Nat.mod_eq_of_lt hlt]

theorem toNat_setTimeLo (time : BitVec 64) (v : Word) :
    (setTimeLo time v).toNat = time.toNat / 2 ^ 32 * 2 ^ 32 + v.toNat := by
  rw [← toNat_timeHi]
  exact toNat_append_eq_add (timeHi time) v

theorem toNat_setTimeHi (time : BitVec 64) (v : Word) :
    (setTimeHi time v).toNat = v.toNat * 2 ^ 32 + time.toNat % 2 ^ 32 := by
  rw [← toNat_timeLo]
  exact toNat_append_eq_add v (timeLo time)

theorem toNat_pushByte (v : Word) : (pushByte v).toNat = v.toNat % 2 ^ 8 := toNat_lowByte v

/-! ### What each write does -/

@[simp] theorem exec_wrTimelo (v : Word) (s : State) :
    exec (.wrTimelo v) s = .next { s with time := setTimeLo s.time v } := rfl

@[simp] theorem exec_wrTimehi (v : Word) (s : State) :
    exec (.wrTimehi v) s = .next { s with time := setTimeHi s.time v } := rfl

@[simp] theorem exec_wrSecpush (v : Word) (s : State) : exec (.wrSecpush v) s = .next (s.pushSec (pushByte v)) := rfl

@[simp] theorem exec_wrKeypush (v : Word) (s : State) : exec (.wrKeypush v) s = .next (s.pushKey (pushByte v)) := rfl

@[simp] theorem exec_wrMsgpush (v : Word) (s : State) : exec (.wrMsgpush v) s = .next (s.pushMsg (pushByte v)) := rfl

@[simp] theorem exec_wrBufidx (v : Word) (s : State) : exec (.wrBufidx v) s = .next { s with bufidx := v } := rfl

@[simp] theorem exec_wrW (i : Fin 16) (v : Word) (s : State) :
    exec (.wrW i v) s = .next { s with w := s.w.set i v } := rfl

/-! ### The statements -/

/-- Settles O13: each write keeps the other half of TIME. -/
theorem timeHalvesWritten : Obligations.TimeHalvesWritten := fun s v =>
  ⟨⟨_, exec_wrTimelo v s, toNat_setTimeLo s.time v⟩, ⟨_, exec_wrTimehi v s, toNat_setTimeHi s.time v⟩⟩

/-- Settles O14: the two outcomes of each push, told apart by the test on its buffer's length. -/
theorem pushAppendsOrOverflows : Obligations.PushAppendsOrOverflows := by
  refine fun s v => ⟨pushByte v, toNat_pushByte v, ?sec, ?key, ?msg⟩
  case sec => obtain ⟨hlen, heq⟩ | ⟨hlen, heq⟩ := pushSec_cases (pushByte v) s <;> simp [heq, hlen]
  case key => obtain ⟨hlen, heq⟩ | ⟨hlen, heq⟩ := pushKey_cases (pushByte v) s <;> simp [heq, hlen]
  case msg => obtain ⟨hlen, heq⟩ | ⟨hlen, heq⟩ := pushMsg_cases (pushByte v) s <;> simp [heq, hlen]

/-- Settles O15: a word of W is set at its own index and at no other. -/
theorem indexAndBlockWordsWritten : Obligations.IndexAndBlockWordsWritten := by
  refine fun s v i => ⟨exec_wrBufidx v s, s.w.set i v, exec_wrW i v s, ?written, ?others⟩
  case written => exact Vector.getElem_set_self i.isLt
  case others => exact fun j hji => Vector.getElem_set_ne i.isLt j.isLt (Fin.val_ne_of_ne hji.symm)

end Sys2Proof.Machine
end

section
/-! PROOFS. Register reads (40_host_port.md R133 to R151). A read answers a word, and `State.answer` is all it does to
the state: each statement below is about the word. -/

namespace Sys2Proof.Machine

/-! ### The words answered, as numbers -/

theorem toNat_statusWord (s : State) :
    s.statusWord.toNat =
      s.ovf.toNat * 32 + s.ill.toNat * 16 + s.nosec.toNat * 8 + s.err.toNat * 4 + s.cv.toNat * 2 + s.dv.toNat := by
  have hovf := s.ovf.toNat_le
  have hill := s.ill.toNat_le
  have hnosec := s.nosec.toNat_le
  have herr := s.err.toNat_le
  have hcv := s.cv.toNat_le
  have hdv := s.dv.toNat_le
  rw [State.statusWord, BitVec.toNat_ofNat, Nat.mod_eq_of_lt (by omega)]

/-- A register that shows a length shows all of it, within the capacities R9 allows. -/
theorem toNat_lengthWord {b : List Byte} {cap : Nat} (hlen : b.length ≤ cap) (hcap : cap ≤ Config.maxCap) :
    (lengthWord b).toNat = b.length := by
  unfold Config.maxCap at hcap
  rw [lengthWord, BitVec.toNat_ofNat, Nat.mod_eq_of_lt (by omega)]

theorem toNat_zext32 {k : Nat} (hk : k ≤ 32) (v : BitVec k) : (zext32 v).toNat = v.toNat :=
  BitVec.toNat_setWidth_of_le hk

theorem toNat_readBack_of_lt {b : List Byte} {idx : Word} (h : idx.toNat < b.length) :
    (readBack b idx).toNat = b[idx.toNat].toNat := by
  rw [readBack, List.getElem?_eq_getElem h]
  exact toNat_zext32 (by decide) _

theorem toNat_readBack_of_le {b : List Byte} {idx : Word} (h : b.length ≤ idx.toNat) :
    (readBack b idx).toNat = 0x80000000 := by
  rw [readBack, List.getElem?_eq_none h]
  rfl

theorem toNat_be32 (b0 b1 b2 b3 : Byte) :
    (be32 b0 b1 b2 b3).toNat = b0.toNat * 2 ^ 24 + b1.toNat * 2 ^ 16 + b2.toNat * 2 ^ 8 + b3.toNat := by
  simp only [be32, toNat_append_eq_add]
  omega

theorem toNat_truncCode (value : BitVec 31) : (truncCode value).toNat = value.toNat % 1000000 := by
  rw [truncCode, BitVec.toNat_ofNat, Nat.mod_eq_of_lt (by omega)]

/-! ### Empty reads -/

theorem exec_writeOnlyRead (s : State) : ∀ i ∈ writeOnlyReads, exec i s = .next (s.answer 0) := by
  simp only [writeOnlyReads, List.mem_cons, List.not_mem_nil, or_false, forall_eq_or_imp, forall_eq]
  and_intros <;> rfl

theorem exec_reservedRead (s : State) : ∀ i ∈ reservedReads, exec i s = .next (s.answer 0) := by
  simp only [reservedReads, List.mem_cons, List.not_mem_nil, or_false, forall_eq_or_imp, forall_eq]
  and_intros <;> rfl

/-! ### The statements -/

/-- Settles O17: each read answers its register, and the numbers are those of the words answered. -/
theorem statusTimeIndexRead : Obligations.StatusTimeIndexRead := fun s =>
  ⟨⟨_, rfl, toNat_statusWord s⟩, ⟨_, rfl, toNat_timeLo s.time⟩, ⟨_, rfl, toNat_timeHi s.time⟩, rfl⟩

/-- Settles O18: the invariant keeps each buffer within a capacity that 32 bits can show (log 7). -/
theorem lengthsRead : Obligations.LengthsRead := by
  intro s hinv
  obtain ⟨-, hsecCap, -, hkeyCap, -, hmsgCap⟩ := hinv.cfg
  obtain ⟨hsec, hkey, hmsg⟩ := hinv.memory
  exact ⟨⟨_, rfl, toNat_lengthWord hsec hsecCap⟩, ⟨_, rfl, toNat_lengthWord hkey hkeyCap⟩,
    ⟨_, rfl, toNat_lengthWord hmsg hmsgCap⟩⟩

/-- Settles O19: the two cases of the read-back word, at each of the three buffers. -/
theorem readBackAtIndex : Obligations.ReadBackAtIndex := fun _ =>
  ⟨_, _, _, rfl, rfl, rfl, toNat_readBack_of_lt, toNat_readBack_of_le, toNat_readBack_of_lt, toNat_readBack_of_le,
    toNat_readBack_of_lt, toNat_readBack_of_le⟩

/-- Settles O21: every word of DIG is a big-endian word of four bytes, whichever its index. -/
theorem digestWordsRead : Obligations.DigestWordsRead := fun s =>
  ⟨digestWord s.dig, fun _ => toNat_be32 _ _ _ _, rfl, rfl, rfl, rfl, rfl⟩

/-- Settles O22: the ranges of OFFSET and VALUE are their widths; that of CODE is the modulus of R245, since in a state
of the invariant CODE is the code of VALUE. -/
theorem codeRegistersRead : Obligations.CodeRegistersRead := by
  intro s
  have hoffset : (zext32 s.offset).toNat = s.offset.toNat := toNat_zext32 (by decide) _
  have hvalue : (zext32 s.value).toNat = s.value.toNat := toNat_zext32 (by decide) _
  have hcode : (zext32 s.code).toNat = s.code.toNat := toNat_zext32 (by decide) _
  refine ⟨_, _, _, _, rfl, hoffset, by omega, rfl, hvalue, by omega, rfl, hcode, fun hinv => ?codeRange, rfl,
    toNat_zext32 (by decide) _⟩
  case codeRange =>
    rw [hcode, hinv.code.1, toNat_truncCode]
    omega

/-- Settles O23: both kinds of empty read answer zero and do no more. -/
theorem emptyReadsReturnZero : Obligations.EmptyReadsReturnZero := fun s i h =>
  h.elim (exec_writeOnlyRead s i) (exec_reservedRead s i)

end Sys2Proof.Machine
end

section
/-! PROOFS. The Base32 decoder (41_base32.md R161 to R166). -/

namespace Sys2Proof.Machine

/-! ### The value of a symbol (R161) -/

theorem symbolValue_of_letter {c : Byte} (h1 : 0x41 ≤ c.toNat) (h2 : c.toNat ≤ 0x5A) :
    symbolValue c = some (BitVec.ofNat 5 (c.toNat - 0x41)) := if_pos ⟨h1, h2⟩

theorem symbolValue_of_digit {c : Byte} (h1 : 0x32 ≤ c.toNat) (h2 : c.toNat ≤ 0x37) :
    symbolValue c = some (BitVec.ofNat 5 (c.toNat - 0x32 + 26)) := by
  rw [symbolValue, if_neg (by omega), if_pos ⟨h1, h2⟩]

/-! ### One turn of P165 -/

theorem b32symbol_of_some {c : Byte} {v : BitVec 5} (h : symbolValue c = some v) (st : B32State) :
    b32symbol st c = b32absorb st v := by
  rw [b32symbol, h]

theorem b32symbol_of_none {c : Byte} (h : symbolValue c = none) (st : B32State) : b32symbol st c = st := by
  rw [b32symbol, h]

theorem b32run_skip {c : Byte} (h : symbolValue c = none) (a b : List Byte) :
    b32run (a ++ c :: b) = b32run (a ++ b) := by
  simp only [b32run, List.foldl_append, List.foldl_cons, b32symbol_of_none h]

/-! ### The bit string (R163) -/

theorem length_groupBits (v : BitVec 5) : (groupBits v).length = 5 := rfl

theorem getD_groupBits (v : BitVec 5) {i : Nat} (hi : i < 5) : (groupBits v).getD i false = v.getLsbD (4 - i) := by
  interval_cases i <;> rfl

theorem length_flatMap_groupBits (vs : List (BitVec 5)) : (vs.flatMap groupBits).length = 5 * vs.length := by
  simp [List.length_flatMap, length_groupBits, Nat.mul_comm]

/-- Bit `5j + i` of the groups one after the other is bit `i` of group `j`. -/
theorem getD_flatMap_groupBits {vs : List (BitVec 5)} {j i : Nat} (hj : j < vs.length) (hi : i < 5) :
    (vs.flatMap groupBits).getD (5 * j + i) false = (vs.getD j 0).getLsbD (4 - i) := by
  induction vs generalizing j with
  | nil => simp at hj
  | cons v vs ih =>
    rw [List.flatMap_cons]
    cases j with
    | zero =>
      rw [List.getD_append _ _ _ _ (by rw [length_groupBits]; omega), Nat.mul_zero, Nat.zero_add, getD_groupBits v hi]
      rfl
    | succ j =>
      rw [List.getD_append_right _ _ _ _ (by rw [length_groupBits]; omega), length_groupBits,
        show 5 * (j + 1) + i - 5 = 5 * j + i by omega, ih (by simpa using hj)]
      rfl

theorem length_symbolBits (s : List Byte) : (symbolBits s).length = 5 * alphabetCount s := length_flatMap_groupBits _

theorem symbolBits_cons_of_some {c : Byte} {v : BitVec 5} (h : symbolValue c = some v) (s : List Byte) :
    symbolBits (c :: s) = groupBits v ++ symbolBits s := by
  simp [symbolBits, alphabetValues, h]

theorem symbolBits_cons_of_none {c : Byte} (h : symbolValue c = none) (s : List Byte) :
    symbolBits (c :: s) = symbolBits s := by
  simp [symbolBits, alphabetValues, h]

/-! ### The value of bits -/

theorem bitsValue_append (a b : List Bool) : bitsValue (a ++ b) = bitsValue a * 2 ^ b.length + bitsValue b := by
  induction b using List.reverseRecOn with
  | nil => simp [bitsValue]
  | append_singleton b x ih =>
    have hsnoc : ∀ l : List Bool, bitsValue (l ++ [x]) = 2 * bitsValue l + x.toNat := fun l => by simp [bitsValue]
    rw [← List.append_assoc, hsnoc, hsnoc, ih, List.length_append, List.length_singleton, pow_succ]
    ring

theorem bitsValue_cons (x : Bool) (bs : List Bool) : bitsValue (x :: bs) = 2 ^ bs.length * x.toNat + bitsValue bs := by
  rw [← List.singleton_append, bitsValue_append, Nat.mul_comm]
  simp [bitsValue]

theorem bitsValue_lt (bs : List Bool) : bitsValue bs < 2 ^ bs.length := by
  induction bs with
  | nil => decide
  | cons x bs ih =>
    have hx := Nat.mul_le_mul_left (2 ^ bs.length) x.toNat_le
    rw [bitsValue_cons, List.length_cons, pow_succ]
    omega

theorem testBit_bitsValue {bs : List Bool} {i : Nat} (hi : i < bs.length) :
    (bitsValue bs).testBit (bs.length - 1 - i) = bs.getD i false := by
  induction bs generalizing i with
  | nil => simp at hi
  | cons x bs ih =>
    rw [bitsValue_cons, Nat.testBit_two_pow_mul_add _ (bitsValue_lt bs), List.length_cons]
    cases i with
    | zero => cases x <;> simp
    | succ i =>
      have hi' : i < bs.length := by simpa using hi
      rw [if_pos (by omega), List.getD_cons_succ, ← ih hi']
      congr 1
      omega

theorem bitsValue_groupBits (v : BitVec 5) : bitsValue (groupBits v) = v.toNat := by
  revert v
  decide

/-! ### The bytes cut from the bit string (R164) -/

theorem length_bytesOfBits (bs : List Bool) : (bytesOfBits bs).length = bs.length / 8 := by simp [bytesOfBits]

theorem bytesOfBits_of_length_lt {bs : List Bool} (h : bs.length < 8) : bytesOfBits bs = [] := by
  rw [← List.length_eq_zero_iff, length_bytesOfBits, Nat.div_eq_of_lt h]

/-- The first eight bits are the first byte, and the rest is cut as before. -/
theorem bytesOfBits_append_of_length_eq {bs : List Bool} (h : bs.length = 8) (rest : List Bool) :
    bytesOfBits (bs ++ rest) = BitVec.ofNat 8 (bitsValue bs) :: bytesOfBits rest := by
  have hlen : (bs ++ rest).length / 8 = rest.length / 8 + 1 := by rw [List.length_append]; omega
  have hdrop (j : Nat) : (bs ++ rest).drop (8 * (j + 1)) = rest.drop (8 * j) := by
    rw [List.drop_append, List.drop_of_length_le (by omega), h, List.nil_append]
    congr 1
  simp only [bytesOfBits, hlen, List.range_succ_eq_map, List.map_cons, List.map_map]
  congr 1
  · rw [Nat.mul_zero, List.drop_zero, List.take_left' h]
  · exact List.map_congr_left fun j _ => by rw [Function.comp_apply, Nat.succ_eq_add_one, hdrop]

theorem getLsbD_bytesOfBits {bs : List Bool} {j i : Nat} (hj : j < (bytesOfBits bs).length) (hi : i < 8) :
    ((bytesOfBits bs).getD j 0).getLsbD (7 - i) = bs.getD (8 * j + i) false := by
  have hlen : ((bs.drop (8 * j)).take 8).length = 8 := by
    rw [length_bytesOfBits] at hj
    rw [List.length_take, List.length_drop]
    omega
  have hbit := testBit_bitsValue (bs := (bs.drop (8 * j)).take 8) (i := i) (by omega)
  rw [hlen] at hbit
  have hbyte : (bytesOfBits bs).getD j 0 = BitVec.ofNat 8 (bitsValue ((bs.drop (8 * j)).take 8)) := by
    rw [List.getD_eq_getElem _ _ hj]
    simp [bytesOfBits]
  rw [hbyte, BitVec.getLsbD_ofNat, decide_eq_true (by omega), Bool.true_and, hbit]
  simp [List.getD_eq_getElem?_getD, hi]

theorem length_b32decodeByBits (s : List Byte) : (b32decodeByBits s).length = 5 * alphabetCount s / 8 := by
  rw [b32decodeByBits, length_bytesOfBits, length_symbolBits]

/-! ### The streaming form keeps the bits it has not emitted (R165) -/

/-- The low bits of ACC are the bits `p`. -/
def LowBits (acc : BitVec 12) (p : List Bool) : Prop := acc.toNat % 2 ^ p.length = bitsValue p

/-- ACC keeps twelve bits, and seven that wait and five that come are no more. -/
theorem lowBits_shiftIn {acc : BitVec 12} {p : List Bool} (h : LowBits acc p) (hp : p.length < 8) (v : BitVec 5) :
    LowBits ((acc <<< 5) ||| v.setWidth 12) (p ++ groupBits v) := by
  have hv := v.isLt
  have hacc : ((acc <<< 5) ||| v.setWidth 12).toNat = (2 ^ 5 * acc.toNat + v.toNat) % 2 ^ 12 := by
    rw [Nat.two_pow_add_eq_or_of_lt hv, Nat.or_mod_two_pow]
    simp [Nat.shiftLeft_eq, Nat.mul_comm]
  have hdvd : 2 ^ (p.length + 5) ∣ 2 ^ 12 := pow_dvd_pow 2 (by omega)
  rw [LowBits, hacc, bitsValue_append, ← h, bitsValue_groupBits, List.length_append, length_groupBits,
    Nat.mod_mod_of_dvd _ hdvd]
  have hsplit := Nat.mod_mul (x := 2 ^ 5 * acc.toNat + v.toNat) (a := 2 ^ 5) (b := 2 ^ p.length)
  rw [pow_add, Nat.mul_comm (2 ^ p.length), hsplit, Nat.mul_add_mod, Nat.mod_eq_of_lt hv, Nat.mul_add_div (by decide),
    Nat.div_eq_of_lt hv, Nat.add_zero, Nat.add_comm, Nat.mul_comm]

/-- A byte that is emitted is the eight bits that came first; the others stay (P165). -/
theorem lowBits_append {acc : BitVec 12} {a b : List Bool} (h : LowBits acc (a ++ b)) (ha : a.length = 8) :
    (acc >>> b.length).setWidth 8 = BitVec.ofNat 8 (bitsValue a) ∧ LowBits acc b := by
  have hb := bitsValue_lt b
  have hval : acc.toNat % (2 ^ b.length * 2 ^ 8) = 2 ^ b.length * bitsValue a + bitsValue b := by
    rw [LowBits, List.length_append, ha, Nat.add_comm, pow_add, bitsValue_append, Nat.mul_comm (bitsValue a)] at h
    exact h
  constructor
  · rw [← BitVec.toNat_inj, BitVec.toNat_setWidth, BitVec.toNat_ushiftRight, Nat.shiftRight_eq_div_pow,
      ← Nat.mod_mul_right_div_self, hval, Nat.mul_add_div (Nat.two_pow_pos _), Nat.div_eq_of_lt hb, Nat.add_zero,
      BitVec.toNat_ofNat, Nat.mod_eq_of_lt (ha ▸ bitsValue_lt a)]
  · rw [LowBits, ← Nat.mod_mul_right_mod _ _ (2 ^ 8), hval, Nat.mul_add_mod, Nat.mod_eq_of_lt hb]

/-- The state of P165 while the bits `p` wait in it: NB counts them, and they are the low bits of ACC. -/
structure B32State.Holds (st : B32State) (p : List Bool) : Prop where
  count : p.length = st.nb
  low : LowBits st.acc p

/-- Absorbing a value keeps all bits in order: what is emitted and what waits, before and after, are cut into the same
bytes, whatever follows. -/
theorem b32absorb_bits {st : B32State} {p : List Bool} (h : st.Holds p) (hlt : st.nb < 8) (v : BitVec 5) :
    ∃ q, (b32absorb st v).Holds q ∧ ∀ rest,
      (b32absorb st v).out ++ bytesOfBits (q ++ rest) = st.out ++ bytesOfBits (p ++ (groupBits v ++ rest)) := by
  have hlow := lowBits_shiftIn h.low (h.count ▸ hlt) v
  have hlen : (p ++ groupBits v).length = st.nb + 5 := by rw [List.length_append, length_groupBits, h.count]
  unfold b32absorb
  dsimp only
  split
  case isFalse => exact ⟨p ++ groupBits v, ⟨hlen, hlow⟩, fun rest => by rw [List.append_assoc]⟩
  case isTrue hge =>
    have htake : ((p ++ groupBits v).take 8).length = 8 := by rw [List.length_take, hlen]; omega
    have hdrop : ((p ++ groupBits v).drop 8).length = st.nb + 5 - 8 := by rw [List.length_drop, hlen]
    rw [← List.take_append_drop 8 (p ++ groupBits v)] at hlow
    obtain ⟨hbyte, hrest⟩ := lowBits_append hlow htake
    refine ⟨(p ++ groupBits v).drop 8, ⟨hdrop, hrest⟩, fun rest => ?_⟩
    rw [← hdrop, hbyte, List.append_assoc, List.singleton_append, ← bytesOfBits_append_of_length_eq htake,
      ← List.append_assoc (List.take _ _), List.take_append_drop, List.append_assoc]

/-- Over any run of symbols, the bits that wait and those of the symbols are emitted in order. -/
theorem foldl_b32symbol_out (s : List Byte) {st : B32State} {p : List Bool} (h : st.Holds p) (hlt : st.nb < 8) :
    (s.foldl b32symbol st).out = st.out ++ bytesOfBits (p ++ symbolBits s) := by
  induction s generalizing st p with
  | nil =>
    have hp : (p ++ symbolBits []).length < 8 := by simpa [symbolBits, alphabetValues, h.count] using hlt
    rw [bytesOfBits_of_length_lt hp, List.append_nil, List.foldl_nil]
  | cons c s ih =>
    rw [List.foldl_cons]
    cases hc : symbolValue c with
    | none => rw [b32symbol_of_none hc, symbolBits_cons_of_none hc, ih h hlt]
    | some v =>
      obtain ⟨q, hq, hbits⟩ := b32absorb_bits h hlt v
      rw [b32symbol_of_some hc, symbolBits_cons_of_some hc, ih hq (b32absorb_spec st v hlt).2, hbits]

theorem b32decode_eq_byBits (s : List Byte) : b32decode s = b32decodeByBits s := by
  rw [b32decode, b32run, b32decodeByBits]
  exact foldl_b32symbol_out s (st := b32start) (p := []) ⟨rfl, rfl⟩ (by decide)

/-! ### The statements -/

/-- Settles O25: the three cases of `symbolValue`, and the positions of a bit in its group and in its byte. -/
theorem symbolValuesAndBitString : Obligations.SymbolValuesAndBitString := by
  refine ⟨fun c => ⟨fun h1 h2 => ⟨_, symbolValue_of_letter h1 h2, ?letter⟩,
      fun h1 h2 => ⟨_, symbolValue_of_digit h1 h2, ?digit⟩, fun h1 h2 => (symbolValue_none_iff c).2 ⟨h1, h2⟩⟩,
    fun s => ⟨rfl, length_symbolBits s, fun _ _ => getD_flatMap_groupBits, length_b32decodeByBits s, ?bytes⟩⟩
  case letter | digit => rw [BitVec.toNat_ofNat, Nat.mod_eq_of_lt (by omega)]
  case bytes =>
    rw [b32decodeByBits]
    exact fun _ _ => getLsbD_bytesOfBits

/-- Settles O26: P165 starts with no bits waiting, and emits all whole bytes of those that come. -/
theorem streamingDecodeEqualsBitString : Obligations.StreamingDecodeEqualsBitString := fun s =>
  ⟨b32decode_eq_byBits s, Nat.le_of_lt_succ (b32run_count s).2⟩

/-- Settles O27: the bytes and the bits left over are the quotient and the remainder of the count of all bits. -/
theorem decodedLength : Obligations.DecodedLength := by
  intro s
  have hcount := b32run_count s
  unfold b32decode
  omega

/-- Settles O28: P165 does not move at a symbol with no value. -/
theorem otherSymbolsSkipped : Obligations.OtherSymbolsSkipped := fun a b c h1 h2 =>
  congrArg B32State.out (b32run_skip ((symbolValue_none_iff c).2 ⟨h1, h2⟩) a b)

end Sys2Proof.Machine
end

section
/-! PROOFS. The SHA-1 compression engine (42_sha1.md R181 to R189). -/

namespace Sys2Proof.Machine

/-! ### The round function, bit by bit (R185) -/

theorem roundFunction_choose {t : Nat} (h : t < 20) (x y z : Word) :
    roundFunction t x y z = (x &&& y) ||| (not32 x &&& z) := if_pos h

theorem roundFunction_parity {t : Nat} (h : 20 ≤ t ∧ t < 40 ∨ 60 ≤ t) (x y z : Word) :
    roundFunction t x y z = x ^^^ y ^^^ z := by
  rw [roundFunction, if_neg (by omega)]
  split
  · rfl
  · rw [if_neg (by omega)]

theorem roundFunction_majority {t : Nat} (h1 : 40 ≤ t) (h2 : t < 60) (x y z : Word) :
    roundFunction t x y z = (x &&& y) ||| (x &&& z) ||| (y &&& z) := by
  rw [roundFunction, if_neg (by omega), if_neg (by omega), if_pos h2]

theorem getElem_not32 (x : Word) {i : Nat} (hi : i < 32) : (not32 x)[i] = !x[i] := by
  have hnot : not32 x = ~~~x := BitVec.xor_allOnes
  rw [hnot, BitVec.getElem_not]

theorem choose_eq_ite : ∀ x y z : Bool, (x && y || !x && z) = if x then y else z := by decide

theorem toNat_parity : ∀ x y z : Bool, (x ^^ y ^^ z).toNat = (x.toNat + y.toNat + z.toNat) % 2 := by decide

theorem majority_eq_decide :
    ∀ x y z : Bool, (x && y || x && z || y && z) = decide (2 ≤ x.toNat + y.toNat + z.toNat) := by decide

/-- Each bit of the function is the choice, the parity or the majority of the three bits at its place. -/
theorem getElem_roundFunction (t : Nat) (x y z : Word) {i : Nat} (hi : i < 32) :
    (t < 20 → (roundFunction t x y z)[i] = if x[i] then y[i] else z[i]) ∧
    (20 ≤ t ∧ t < 40 ∨ 60 ≤ t →
      (roundFunction t x y z)[i].toNat = (x[i].toNat + y[i].toNat + z[i].toNat) % 2) ∧
    (40 ≤ t → t < 60 →
      (roundFunction t x y z)[i] = decide (2 ≤ x[i].toNat + y[i].toNat + z[i].toNat)) := by
  refine ⟨fun h => ?choose, fun h => ?parity, fun h1 h2 => ?majority⟩
  case choose =>
    rw [roundFunction_choose h, BitVec.getElem_or, BitVec.getElem_and, BitVec.getElem_and, getElem_not32]
    exact choose_eq_ite _ _ _
  case parity =>
    rw [roundFunction_parity h, BitVec.getElem_xor, BitVec.getElem_xor]
    exact toNat_parity _ _ _
  case majority =>
    rw [roundFunction_majority h1 h2]
    simp only [BitVec.getElem_or, BitVec.getElem_and]
    exact majority_eq_decide _ _ _

/-! ### The rotation (R11) -/

theorem getElem_rotl32 (x : Word) {n i : Nat} (hn : n < 32) (hi : i < 32) :
    (rotl32 x n)[i] = x[(i + 32 - n) % 32]'(Nat.mod_lt _ (by decide)) := by
  have hrot : rotl32 x n = x.rotateLeft n := by
    rw [BitVec.rotateLeft_def, Nat.mod_eq_of_lt hn]
    rfl
  rw [hrot]
  simp only [BitVec.getElem_rotateLeft, Nat.mod_eq_of_lt hn]
  split <;> congr 1 <;> omega

/-! ### The schedule (R184) -/

/-- A longer part of the schedule keeps the words of a shorter one. -/
theorem getElem_schedulePrefix_of_le (w : Vector Word 16) {n k j : Nat} (hnk : n ≤ k) (hj : j < 16 + n) :
    (schedulePrefix w k)[j] = (schedulePrefix w n)[j] := by
  induction hnk with
  | refl => rfl
  | step hnk ih => exact (Vector.getElem_push_lt (hj.trans_le (Nat.add_le_add_left hnk 16))).trans ih

theorem getElem_schedule (w : Vector Word 16) {n j : Nat} (hn : n ≤ 64) (hj : j < 16 + n) :
    (schedule w)[j] = (schedulePrefix w n)[j] := by
  unfold schedule
  exact getElem_schedulePrefix_of_le w hn hj

/-- The word pushed last is the one the recurrence gives. -/
theorem getElem_schedule_add (w : Vector Word 16) {n : Nat} (hn : n < 64) :
    (schedule w)[16 + n] =
      rotl32 ((schedule w)[n + 13] ^^^ (schedule w)[n + 8] ^^^ (schedule w)[n + 2] ^^^ (schedule w)[n]) 1 := by
  rw [getElem_schedule w (n := n + 1) hn (by omega), getElem_schedule w (n := n) hn.le (by omega),
    getElem_schedule w (n := n) hn.le (by omega), getElem_schedule w (n := n) hn.le (by omega),
    getElem_schedule w (n := n) hn.le (by omega)]
  exact Vector.getElem_push_eq

/-! ### The rounds and the compression (R187, R188) -/

theorem toNat_roundStep_a (t : Nat) (wt : Word) (r : Regs) :
    (roundStep t wt r).a.toNat =
      ((rotl32 r.a 5).toNat + (roundFunction t r.b r.c r.d).toNat + r.e.toNat + (roundConstant t).toNat +
        wt.toNat) % 2 ^ 32 := by
  simp only [roundStep, add32, BitVec.toNat_add, Nat.mod_add_mod]

theorem compress_eq (h : Vector Word 5) (w : Vector Word 16) :
    compress h w = feedForward h (rounds (schedule w) (regsOfChain h) 80 (Nat.le_refl 80)) := by
  unfold compress roundsOfBlock
  rfl

/-! ### The commands SHINIT and SHBLK (R182, R189) -/

@[simp] theorem exec_shinit (s : State) : exec .shinit s = .next s.shinit := rfl

@[simp] theorem exec_shblk (s : State) : exec .shblk s = .next s.shblk := rfl

/-! ### The statements -/

/-- Settles O33: the constant is read off its ranges, the bits of the function and of the rotation are those of the
lemmas above. -/
theorem roundFunctionAndConstant : Obligations.RoundFunctionAndConstant := by
  refine ⟨fun t => ?constant, fun t x y z i => ?function, fun x n i => getElem_rotl32 x n.isLt i.isLt⟩
  case constant =>
    unfold roundConstant
    refine ⟨fun h => if_pos h, fun h1 h2 => ?second, fun h1 h2 => ?third, fun h1 _ => ?fourth⟩
    case second => rw [if_neg h1.not_gt, if_pos h2]
    case third => rw [if_neg (by omega), if_neg h1.not_gt, if_pos h2]
    case fourth => rw [if_neg (by omega), if_neg (by omega), if_neg h1.not_gt]
  case function =>
    obtain ⟨hchoose, hparity, hmajority⟩ := getElem_roundFunction t x y z i.isLt
    exact ⟨hchoose, fun h1 h2 => hparity (.inl ⟨h1, h2⟩), hmajority, fun h1 _ => hparity (.inr h1)⟩

/-- Settles O34: a round is `roundStep`, and the compression is the feed-forward of the eighty rounds. -/
theorem roundsStepByStep : Obligations.RoundsStepByStep :=
  ⟨fun ws r => ⟨rfl, fun n hn => ⟨toNat_roundStep_a n ws[n] (rounds ws r n hn.le), rfl, rfl, rfl, rfl⟩⟩, compress_eq⟩

/-- Settles O35: the block is the schedule's first part, and every later word was pushed by the recurrence. -/
theorem scheduleRecurrence : Obligations.ScheduleRecurrence := by
  refine fun w => ⟨fun j hj => getElem_schedule w (n := 0) (Nat.zero_le _) hj, fun j hj hge => ?later⟩
  case later =>
    obtain ⟨n, rfl⟩ := Nat.exists_eq_add_of_le hge
    rw [getElem_schedule_add w (by omega)]
    simp only [show 16 + n - 3 = n + 13 by omega, show 16 + n - 8 = n + 8 by omega,
      show 16 + n - 14 = n + 2 by omega, Nat.add_sub_cancel_left]

/-- Settles O31: the five words are those of `iv`. -/
theorem shinitLoadsInitialValue : Obligations.ShinitLoadsInitialValue := exec_shinit

/-- Settles O32: H is the compression of H and W, word by word. -/
theorem shblkCompresses : Obligations.ShblkCompresses := by
  refine fun s => ⟨compress s.h s.w, s.shblk.hid, exec_shblk s, ?words, rfl, rfl, rfl⟩
  case words =>
    rw [compress_eq]
    exact ⟨rfl, rfl, rfl, rfl, rfl⟩

end Sys2Proof.Machine
end

section
/-! PROOFS. Padding, the chain of blocks, and the command SHA1 (42_sha1.md R183, R190 to R196). -/

namespace Sys2Proof.Machine

/-! ### The padded message (R190, R191) -/

theorem length_be64 (n : BitVec 64) : (be64 n).length = 8 := List.length_ofFn

theorem toNat_getD_be64 (n : BitVec 64) (i : Fin 8) :
    ((be64 n).getD i 0).toNat = n.toNat / 2 ^ (56 - 8 * i.val) % 2 ^ 8 := by
  have hlen : i.val < (be64 n).length := by rw [length_be64]; exact i.isLt
  have hbyte : (be64 n)[i.val] = n.extractLsb' (56 - 8 * i.val) 8 := List.getElem_ofFn hlen
  rw [List.getD_eq_getElem _ _ hlen, hbyte, BitVec.extractLsb'_toNat, Nat.shiftRight_eq_div_pow]

theorem toNat_lengthField {len : Nat} (h : 8 * len < 2 ^ 64) : (lengthField len).toNat = 8 * len := by
  rw [lengthField, if_pos h, BitVec.toNat_ofNat, Nat.mod_eq_of_lt h]

theorem pad_eq (m : List Byte) :
    pad m = m ++ [0x80] ++ List.replicate (padZeros m.length) 0x00 ++ be64 (lengthField m.length) := by
  unfold pad
  rfl

theorem add_padZeros_mod (len : Nat) : (len + 1 + padZeros len) % 64 = 56 := by
  unfold padZeros
  omega

/-- Fewer zero bytes than `padZeros` leave the length field off its place. -/
theorem add_mod_ne_of_lt_padZeros {len z : Nat} (h : z < padZeros len) : (len + 1 + z) % 64 ≠ 56 := by
  unfold padZeros at h
  omega

/-- Padding makes whole blocks, whatever the length field is. -/
theorem length_pad (m : List Byte) : (pad m).length = 64 * ((m.length + 8) / 64 + 1) := by
  rw [pad_eq]
  simp only [List.length_append, List.length_replicate, List.length_singleton, length_be64, padZeros]
  omega

/-! ### The blocks and their words (R183, R193) -/

theorem blocks_eq (m : List Byte) :
    blocks m = (List.range ((pad m).length / 64)).map fun q => ((pad m).drop (64 * q)).take 64 := by
  unfold blocks
  rfl

theorem length_blocks (m : List Byte) : (blocks m).length = (m.length + 8) / 64 + 1 := by
  rw [blocks_eq, List.length_map, List.length_range, length_pad, Nat.mul_div_cancel_left _ (by decide)]

theorem getElem_blocks {m : List Byte} {q : Nat} (hq : q < (blocks m).length) :
    (blocks m)[q] = ((pad m).drop (64 * q)).take 64 := by
  simp only [blocks_eq, List.getElem_map, List.getElem_range]

theorem getD_getElem_blocks {m : List Byte} {q i : Nat} (hq : q < (blocks m).length) (hi : i < 64) :
    (blocks m)[q].getD i 0 = (pad m).getD (64 * q + i) 0 := by
  rw [getElem_blocks]
  simp [List.getD_eq_getElem?_getD, hi]

theorem getElem_wordsOfBlock (blk : List Byte) {i : Nat} (hi : i < 16) :
    (wordsOfBlock blk)[i] =
      be32 (blk.getD (4 * i) 0) (blk.getD (4 * i + 1) 0) (blk.getD (4 * i + 2) 0) (blk.getD (4 * i + 3) 0) := by
  unfold wordsOfBlock
  exact Vector.getElem_ofFn hi

/-! ### The chaining value (R193) -/

/-- The chaining value after the first `q` blocks of the padded message. -/
def chainAfter (m : List Byte) (q : Nat) : Vector Word 5 :=
  ((blocks m).take q).foldl (fun h blk => compress h (wordsOfBlock blk)) iv

theorem chainAfter_zero (m : List Byte) : chainAfter m 0 = iv := rfl

theorem chainAfter_succ {m : List Byte} {q : Nat} (hq : q < (blocks m).length) :
    chainAfter m (q + 1) = compress (chainAfter m q) (wordsOfBlock (blocks m)[q]) := by
  rw [chainAfter, List.take_succ_eq_append_getElem hq, List.foldl_append]
  rfl

theorem sha1Chain_eq_chainAfter (m : List Byte) : sha1Chain m = chainAfter m (blocks m).length := by
  unfold sha1Chain
  rw [chainAfter, List.take_length]

theorem lastBlockWords_eq {m : List Byte} {q : Nat} (hq : q < (blocks m).length) (hlast : q + 1 = (blocks m).length) :
    lastBlockWords m = wordsOfBlock (blocks m)[q] := by
  unfold lastBlockWords
  rw [List.getLastD_eq_getLast?, List.getLast?_eq_getElem?, ← hlast, Nat.add_sub_cancel, List.getElem?_eq_getElem hq,
    Option.getD_some]

/-! ### The digest (R194) -/

theorem toNat_byteOfWord (x : Word) (m : Nat) : (byteOfWord x m).toNat = x.toNat / 2 ^ (24 - 8 * m) % 2 ^ 8 := by
  rw [byteOfWord, BitVec.extractLsb'_toNat, Nat.shiftRight_eq_div_pow]

theorem be32_byteOfWord (x : Word) :
    be32 (byteOfWord x 0) (byteOfWord x 1) (byteOfWord x 2) (byteOfWord x 3) = x := by
  rw [← BitVec.toNat_inj, toNat_be32]
  simp only [toNat_byteOfWord]
  omega

theorem getElem_digest (h : Vector Word 5) {k m : Nat} (hk : k < 5) (hm : m < 4) :
    (digest h)[4 * k + m] = byteOfWord h[k] m := by
  unfold digest
  simp only [Vector.getElem_ofFn, show (4 * k + m) / 4 = k by omega, show (4 * k + m) % 4 = m by omega]

theorem digestWord_digest (h : Vector Word 5) (k : Fin 5) : digestWord (digest h) k = h[k] := by
  have hfirst : (digest h)[4 * k.val] = byteOfWord h[k] 0 := getElem_digest h k.isLt (m := 0) (by decide)
  rw [digestWord, hfirst, getElem_digest h k.isLt (m := 1) (by decide), getElem_digest h k.isLt (m := 2) (by decide),
    getElem_digest h k.isLt (m := 3) (by decide)]
  exact be32_byteOfWord h[k]

/-! ### The command SHA1 (R195) -/

theorem exec_sha1 (s : State) :
    exec .sha1 s = .next ((s.enter .hash).hashMessage s.msg).storeDigest.flagDv.finish := rfl

/-! ### The statements -/

/-- Settles O37: the four parts of `pad`, with `padZeros` as the number of zero bytes. -/
theorem paddingShape : Obligations.PaddingShape := by
  refine fun m hm => ⟨padZeros m.length, be64 (lengthField m.length), pad_eq m, add_padZeros_mod m.length,
    fun _ => add_mod_ne_of_lt_padZeros, length_be64 _, fun i => ?lengthByte, length_pad m⟩
  case lengthByte => rw [toNat_getD_be64, toNat_lengthField hm]

/-- Settles O38: the chain is `chainAfter`, and each byte of a block is the byte of the padded message at its place. -/
theorem blockWordsAndChain : Obligations.BlockWordsAndChain := by
  refine fun m => ⟨?whole, fun q hq i => ?word,
    ⟨chainAfter m, chainAfter_zero m, fun _ => chainAfter_succ, sha1Chain_eq_chainAfter m⟩, fun _ => lastBlockWords_eq⟩
  case whole => rw [length_blocks, length_pad]
  case word =>
    rw [Fin.getElem_fin, getElem_wordsOfBlock _ i.isLt, toNat_be32, getD_getElem_blocks hq (by omega),
      getD_getElem_blocks hq (by omega), getD_getElem_blocks hq (by omega), getD_getElem_blocks hq (by omega)]
    rfl

/-- Settles O39: SHA1 is a hash on the engine, and each word of the digest is put together from the four bytes it was cut
into. -/
theorem sha1HashesMessage : Obligations.Sha1HashesMessage := by
  intro s
  obtain ⟨g, hhash, hacc, hnb, -⟩ := hashMessage_spec s.msg (s.enter .hash)
  refine ⟨{ g with phase := Phase.idle }, ?state, rfl, digestWord_digest _, hacc, hnb, rfl⟩
  case state =>
    rw [exec_sha1, hhash]
    rfl

end Sys2Proof.Machine
end

section
/-! PROOFS. The key block and the command HMAC (43_hmac.md R221 to R226). -/

namespace Sys2Proof.Machine

/-! ### The key block (R221, R222) -/

theorem toList_zeroPad64 {k1 : List Byte} (h : k1.length ≤ 64) :
    (zeroPad64 k1).toList = k1 ++ List.replicate (64 - k1.length) 0x00 := by
  unfold zeroPad64
  refine List.ext_getElem (by simp [h]) fun i _ _ => ?byte
  case byte =>
    rcases Nat.lt_or_ge i k1.length with hi | hi
    · simp [hi]
    · simp [hi, List.getElem_append_right]

theorem keyBlock_eq (key : List Byte) : keyBlock key = zeroPad64 (shortKey key) := by
  unfold keyBlock
  rfl

theorem shortKey_of_long {key : List Byte} (h : 64 < key.length) : shortKey key = (sha1 key).toList := if_pos h

theorem shortKey_of_short {key : List Byte} (h : key.length ≤ 64) : shortKey key = key := if_neg h.not_gt

/-! ### The two hashes (R223, R224) -/

theorem ipad_eq (k0 : Vector Byte 64) : ipad k0 = k0.toList.map (· ^^^ 0x36) := by
  unfold ipad
  rfl

theorem opad_eq (k0 : Vector Byte 64) : opad k0 = k0.toList.map (· ^^^ 0x5C) := by
  unfold opad
  rfl

theorem outerMessage_eq (key msg : List Byte) :
    outerMessage key msg = opad (keyBlock key) ++ (sha1 (ipad (keyBlock key) ++ msg)).toList := by
  unfold outerMessage innerDigest
  rfl

theorem hmac_eq (key msg : List Byte) : hmac key msg = sha1 (outerMessage key msg) := by
  unfold hmac
  rfl

/-! ### The command HMAC (R226) -/

/-- The three phases of P226 one after the other: the message of the last hash is the outer message of KEY and MSG. -/
theorem runHmac_spec (s : State) :
    ∃ g : Hidden, (let m := outerMessage s.key s.msg
      s.runHmac = { s with
        h := sha1Chain m, w := lastBlockWords m, dig := sha1 m, kblk := keyBlock s.key, dv := true, hid := g }) ∧
        g.acc = s.hid.acc ∧ g.nb = s.hid.nb := by
  obtain ⟨_, _, g1, hkey, hacc1, hnb1⟩ := loadKeyBlock_spec s
  obtain ⟨g2, hinner, hacc2, hnb2⟩ := innerHash_spec s.loadKeyBlock
  obtain ⟨g3, houter, hacc3, hnb3⟩ := outerHash_spec s.loadKeyBlock.innerHash
  rw [hinner, hkey] at houter hacc3 hnb3
  rw [hkey] at hacc2 hnb2
  refine ⟨g3, ?state, hacc3.trans (hacc2.trans hacc1), hnb3.trans (hnb2.trans hnb1)⟩
  case state =>
    rw [outerMessage_eq, State.runHmac, hinner, hkey, houter]
    rfl

theorem exec_hmac (s : State) : exec .hmac s = .next s.runHmac.finish := rfl

/-! ### The statements -/

/-- Settles O41: the key block is the shortened key filled up with zero bytes, and the digest of a long key has twenty
bytes. -/
theorem keyBlockShape : Obligations.KeyBlockShape := by
  refine fun key => ⟨fun hlong => ?hashed, fun hshort => ?kept⟩
  case hashed =>
    have hlen : (sha1 key).toList.length = 20 := Vector.length_toList
    rw [keyBlock_eq, shortKey_of_long hlong, toList_zeroPad64 (by omega), hlen]
  case kept => rw [keyBlock_eq, shortKey_of_short hshort, toList_zeroPad64 hshort]

/-- Settles O42: the pads are the key block xored byte by byte, the rest is the run of the three phases. -/
theorem hmacOfKeyAndMessage : Obligations.HmacOfKeyAndMessage := by
  intro s
  obtain ⟨g, hrun, hacc, hnb⟩ := runHmac_spec s
  refine ⟨{ g with phase := Phase.idle }, ?hashes, hacc, hnb, rfl⟩
  case hashes =>
    dsimp only
    rw [← ipad_eq, ← opad_eq, ← outerMessage_eq, exec_hmac, hrun]
    exact ⟨rfl, rfl, hmac_eq s.key s.msg⟩

end Sys2Proof.Machine
end

section
/-! PROOFS. The time step, dynamic truncation and TOTP (44_totp_truncation.md R240 to R257). -/

namespace Sys2Proof.Machine

/-! ### The counter bytes (R241) -/

theorem counterBytes_eq (time : BitVec 64) : counterBytes time = be64 (BitVec.ofNat 64 (time.toNat / 30)) := by
  unfold counterBytes
  rfl

theorem toNat_getD_counterBytes (time : BitVec 64) (i : Fin 8) :
    ((counterBytes time).getD i 0).toNat = time.toNat / 30 / 2 ^ (56 - 8 * i.val) % 2 ^ 8 := by
  have hlt : time.toNat / 30 < 2 ^ 64 := by omega
  rw [counterBytes_eq, toNat_getD_be64, BitVec.toNat_ofNat, Nat.mod_eq_of_lt hlt]

/-! ### The slice of the digest (R243, R244) -/

theorem toNat_truncOffset (dig : Vector Byte 20) : (truncOffset dig).toNat = (dig[19]).toNat % 2 ^ 4 := by
  simp [truncOffset, BitVec.extractLsb'_toNat]

theorem toNat_and_0x7F (b : Byte) : (b &&& 0x7F).toNat = b.toNat % 2 ^ 7 := by
  rw [BitVec.toNat_and]
  exact Nat.and_two_pow_sub_one_eq_mod b.toNat 7

/-- Masking the first byte leaves bit 31 zero, so 31 bits hold the whole slice. -/
theorem toNat_sliceValue (dig : Vector Byte 20) (o : BitVec 4) :
    (sliceValue dig o).toNat = (dig[o.toNat]).toNat % 2 ^ 7 * 2 ^ 24 + (dig[o.toNat + 1]).toNat * 2 ^ 16 +
      (dig[o.toNat + 2]).toNat * 2 ^ 8 + (dig[o.toNat + 3]).toNat := by
  rw [sliceValue, BitVec.extractLsb'_toNat, Nat.shiftRight_zero, toNat_be32, toNat_and_0x7F]
  exact Nat.mod_eq_of_lt (by omega)

theorem truncOffset_set_last {d : Vector Byte 20} {b : Byte} (hb : b.toNat % 2 ^ 4 = (d[19]).toNat % 2 ^ 4) :
    truncOffset (d.set 19 b) = truncOffset d := by
  rw [← BitVec.toNat_inj, toNat_truncOffset, toNat_truncOffset, Vector.getElem_set_self, hb]

/-- An offset of four bits keeps all four bytes of the slice before byte 19. -/
theorem sliceValue_set_last (d : Vector Byte 20) (b : Byte) (o : BitVec 4) :
    sliceValue (d.set 19 b) o = sliceValue d o := by
  have hother {j : Nat} (hj : j < 19) : (d.set 19 b)[j] = d[j] := Vector.getElem_set_ne _ _ (by omega)
  rw [sliceValue, hother (by omega), hother (by omega), hother (by omega), hother (by omega), sliceValue]

/-! ### The decimal form (R246) -/

theorem codeDigit_lt (c : BitVec 20) (i : Nat) : codeDigit c i < 10 := Nat.mod_lt _ (by decide)

theorem toNat_codeToBcd (c : BitVec 20) :
    (codeToBcd c).toNat = codeDigit c 5 * 2 ^ 20 + codeDigit c 4 * 2 ^ 16 + codeDigit c 3 * 2 ^ 12 +
      codeDigit c 2 * 2 ^ 8 + codeDigit c 1 * 2 ^ 4 + codeDigit c 0 := by
  have hdigit := codeDigit_lt c
  rw [codeToBcd, BitVec.toNat_ofNat]
  exact Nat.mod_eq_of_lt (by linarith [hdigit 0, hdigit 1, hdigit 2, hdigit 3, hdigit 4, hdigit 5])

/-- Each digit is below 2^4, so a 4-bit field of CODEBCD holds one digit and nothing of its neighbours. -/
theorem toNat_bcdField (c : BitVec 20) {i : Nat} (hi : i < 6) :
    ((codeToBcd c).extractLsb' (4 * i) 4).toNat = codeDigit c i := by
  have h0 := codeDigit_lt c 0
  have h1 := codeDigit_lt c 1
  have h2 := codeDigit_lt c 2
  have h3 := codeDigit_lt c 3
  have h4 := codeDigit_lt c 4
  have h5 := codeDigit_lt c 5
  rw [BitVec.extractLsb'_toNat, Nat.shiftRight_eq_div_pow, toNat_codeToBcd]
  interval_cases i <;> omega

/-- A code to 999999 is made up of its six digits. -/
theorem sum_codeDigit {c : BitVec 20} (hc : c.toNat ≤ 999999) :
    ((List.range 6).map fun i => codeDigit c i * 10 ^ i).sum = c.toNat := by
  simp [List.range_succ, codeDigit]
  omega

/-- The character of a digit (R246). -/
theorem toNat_digitChar (c : BitVec 20) (i : Nat) :
    (BitVec.ofNat 8 (0x30 + codeDigit c i)).toNat = 0x30 + codeDigit c i := by
  have hdigit := codeDigit_lt c i
  rw [BitVec.toNat_ofNat, Nat.mod_eq_of_lt (by omega)]

theorem getD_codeString (c : BitVec 20) (i : Fin 6) :
    (codeString c).getD (5 - i.val) 0 = BitVec.ofNat 8 (0x30 + codeDigit c i) := by
  fin_cases i <;> rfl

/-- The word a host reads has the fields of CODEBCD. -/
theorem extractLsb'_zext32_codeToBcd (c : BitVec 20) (i : Nat) :
    (zext32 (codeToBcd c)).extractLsb' (4 * i) 4 = (codeToBcd c).extractLsb' (4 * i) 4 := by
  rw [← BitVec.toNat_inj, BitVec.extractLsb'_toNat, BitVec.extractLsb'_toNat, toNat_zext32 (by decide)]

theorem codeString_eq_bcdString (c : BitVec 20) : codeString c = bcdString (zext32 (codeToBcd c)) := by
  refine List.map_congr_left fun i hi => ?digit
  case digit =>
    have hi6 : i < 6 := by fin_cases hi <;> decide
    have hdigit := codeDigit_lt c i
    rw [← BitVec.toNat_inj, toNat_digitChar, extractLsb'_zext32_codeToBcd, BitVec.toNat_add,
      BitVec.toNat_setWidth_of_le (by decide), toNat_bcdField c hi6]
    exact (Nat.mod_eq_of_lt (by omega)).symm

/-! ### A code from KEY and TIME -/

/-- The state after a code is computed from KEY and TIME: all that TSTEP, HMAC and TRUNC write (R250). -/
def State.withCode (s : State) : State :=
  let m := outerMessage s.key (counterBytes s.time)
  let dig := sha1 m
  { s with
    msg := counterBytes s.time
    kblk := keyBlock s.key
    h := sha1Chain m
    w := lastBlockWords m
    dig := dig
    offset := truncOffset dig
    value := truncValue dig
    code := truncCode (truncValue dig)
    codebcd := codeToBcd (truncCode (truncValue dig))
    dv := true
    cv := true }

theorem exec_tstep (s : State) : exec .tstep s = .next s.timeStep := rfl

theorem exec_trunc (s : State) : exec .trunc s = .next s.truncate.cvFromDv := rfl

theorem exec_totp (s : State) : exec .totp s = .next s.runTotp.finish := rfl

/-- A script runs the instruction of its first line, then the other lines. -/
theorem runInstrs_cons {i : Instr} (hi : decode (encode i) = i) (is : List Instr) (s : State) :
    runInstrs (i :: is) s = andThen (exec i s) (runInstrs is) := by
  rw [runInstrs, script, List.map_cons, runScript_cons, access, deliver_access, hi]
  rfl

/-- The cached-key form computes a code from KEY as it stands (R257). -/
theorem runInstrs_tstep_hmac_trunc (s : State) :
    ∃ g : Hidden, runInstrs [.tstep, .hmac, .trunc] s = .next { s.withCode with hid := g } := by
  obtain ⟨g, hrun, -, -⟩ := runHmac_spec s.timeStep
  rw [runInstrs_cons (by decide), exec_tstep, andThen_next, runInstrs_cons (by decide), exec_hmac, hrun, andThen_next,
    runInstrs_cons (by decide), exec_trunc]
  exact ⟨_, rfl⟩

/-! ### The three outcomes of TOTP (R250) -/

/-- A decode gives no byte when there are fewer than two alphabet symbols, that is, fewer than eight bits (R166). -/
theorem b32decode_eq_nil_iff (sec : List Byte) : b32decode sec = [] ↔ alphabetCount sec < 2 := by
  have hcount := b32run_count sec
  rw [← List.length_eq_zero_iff, b32decode]
  omega

theorem exec_totp_of_noSecret {s : State} (hsec : s.sec = []) :
    exec .totp s = .next { s with
      key := [], nosec := true, err := false, cv := false, hid := (s.enter .decode).decodeSecret.finish.hid } := by
  obtain ⟨-, hrun⟩ | ⟨hne, -⟩ | ⟨hne, -⟩ := runTotp_cases s
  · rw [exec_totp, hrun]
    rfl
  · exact absurd hsec hne
  · exact absurd hsec hne

theorem exec_totp_of_noKey {s : State} (hsec : s.sec ≠ []) (hkey : b32decode s.sec = []) :
    exec .totp s = .next { s with
      key := [], nosec := false, err := true, cv := false, hid := (s.enter .decode).decodeSecret.finish.hid } := by
  obtain ⟨hnil, -⟩ | ⟨-, -, hrun⟩ | ⟨-, hne, -⟩ := runTotp_cases s
  · exact absurd hnil hsec
  · rw [exec_totp, hrun]
    rfl
  · exact absurd hkey hne

/-- A key that is found comes from a secret that is not empty, so one test is enough. -/
theorem exec_totp_of_key {s : State} (hkey : b32decode s.sec ≠ []) :
    ∃ g : Hidden, exec .totp s =
        .next { { s with key := b32decode s.sec }.withCode with err := false, nosec := false, hid := g } ∧
      g.acc = 0 ∧ g.nb = 0 ∧ g.phase = Phase.idle := by
  obtain ⟨hnil, -⟩ | ⟨-, hnil, -⟩ | ⟨-, -, hrun⟩ := runTotp_cases s
  · exact absurd ((b32decode_eq_nil_iff s.sec).2 (hnil ▸ by decide)) hkey
  · exact absurd hnil hkey
  · obtain ⟨g, hhmac, hacc, hnb⟩ := runHmac_spec ((s.enter .decode).decodeSecret.enter .timeStep).timeStep
    rw [exec_totp, hrun, State.totpCode, hhmac]
    exact ⟨{ g with phase := Phase.idle }, rfl, hacc, hnb, rfl⟩

/-! ### What a code depends on (R253, R254) -/

/-- The counter bytes are those of the 30-second window (R254). -/
theorem counterBytes_congr {t1 t2 : BitVec 64} (h : t1.toNat / 30 = t2.toNat / 30) :
    counterBytes t1 = counterBytes t2 := by
  rw [counterBytes_eq, counterBytes_eq, h]

theorem sameTotp_withCode {s1 s2 : State} (hkey : s1.key = s2.key)
    (hmsg : counterBytes s1.time = counterBytes s2.time) : SameTotp s1.withCode s2.withCode := by
  constructor <;> simp only [State.withCode, hkey, hmsg]

/-! ### The statements -/

/-- Settles O44: MSG takes the bytes of the counter, each cut from it at its place. -/
theorem tstepWritesCounterBytes : Obligations.TstepWritesCounterBytes := fun s =>
  ⟨counterBytes s.time, exec_tstep s, (counterBytes_eq s.time) ▸ length_be64 _, toNat_getD_counterBytes s.time⟩

/-- Settles O45: TRUNC writes the functions of R243 to R246, and each is the number the rule gives. -/
theorem truncOfDigest : Obligations.TruncOfDigest := by
  refine fun s => ⟨truncOffset s.dig, truncValue s.dig, truncCode (truncValue s.dig),
    codeToBcd (truncCode (truncValue s.dig)), exec_trunc s, toNat_truncOffset s.dig, toNat_sliceValue s.dig _,
    toNat_truncCode _, ?bcd⟩
  case bcd => simp only [toNat_codeToBcd, codeDigit, pow_one, pow_zero, Nat.div_one]

/-- Settles O46: the fields of CODEBCD and the characters of the string are the same six digits. -/
theorem decimalFormOfCode : Obligations.DecimalFormOfCode := by
  refine fun c hc => ⟨fun i => toNat_bcdField c i.isLt, ?sum, codeString_eq_bcdString c, fun i => ?character, rfl,
    ?range⟩
  case sum =>
    rw [← sum_codeDigit hc]
    exact congrArg List.sum (List.map_congr_left fun i hi => by rw [toNat_bcdField c (List.mem_range.1 hi)])
  case character =>
    rw [getD_codeString, toNat_digitChar]
    rfl
  case range =>
    intro d hd
    obtain ⟨i, -, rfl⟩ := List.mem_map.1 hd
    have hdigit := codeDigit_lt c i
    rw [toNat_digitChar]
    omega

/-- Settles O47: an offset is at most 15, and the low nibble of byte 19 acts through the offset alone. -/
theorem lastDigestByteNotInValue : Obligations.LastDigestByteNotInValue := by
  refine fun d b => ⟨by omega, fun hb => ?value⟩
  case value => rw [truncValue, truncOffset_set_last hb, sliceValue_set_last, truncValue]

/-- Settles O49: of the three outcomes only that of a non-empty secret without a key sets ERR, and a secret has no key
when fewer than two of its symbols are in the alphabet. -/
theorem invalidSecretCondition : Obligations.InvalidSecretCondition := by
  intro s t ht
  rw [← b32decode_eq_nil_iff]
  by_cases hsec : s.sec = []
  · rw [exec_totp_of_noSecret hsec] at ht
    cases ht
    simp [hsec]
  by_cases hkey : b32decode s.sec = []
  · rw [exec_totp_of_noKey hsec hkey] at ht
    cases ht
    simp [hsec, hkey]
  · obtain ⟨g, hexec, -⟩ := exec_totp_of_key hkey
    cases hexec.symm.trans ht
    simp [hkey]

/-- Settles O50: SEC alone tells the outcomes apart, so the two runs have the same one, and a code is computed from the
decoded key and the counter bytes. -/
theorem totpDependsOnSecretAndWindow : Obligations.TotpDependsOnSecretAndWindow := by
  intro s1 s2 t1 t2 hsec htime h1 h2
  by_cases hnil : s2.sec = []
  · rw [exec_totp_of_noSecret (hsec.trans hnil)] at h1
    rw [exec_totp_of_noSecret hnil] at h2
    cases h1
    cases h2
    exact ⟨rfl, rfl, rfl, rfl, nofun⟩
  have hdecode : b32decode s1.sec = b32decode s2.sec := congrArg b32decode hsec
  by_cases hkey : b32decode s2.sec = []
  · rw [exec_totp_of_noKey (hsec ▸ hnil) (hdecode.trans hkey)] at h1
    rw [exec_totp_of_noKey hnil hkey] at h2
    cases h1
    cases h2
    exact ⟨rfl, rfl, rfl, rfl, nofun⟩
  · obtain ⟨g1, hexec1, -⟩ := exec_totp_of_key (hdecode ▸ hkey)
    obtain ⟨g2, hexec2, -⟩ := exec_totp_of_key hkey
    cases hexec1.symm.trans h1
    cases hexec2.symm.trans h2
    have hsame := sameTotp_withCode (s1 := { s1 with key := b32decode s1.sec })
      (s2 := { s2 with key := b32decode s2.sec }) hdecode (counterBytes_congr htime)
    exact ⟨hdecode, rfl, rfl, rfl, fun _ => ⟨{ hsame with }, rfl⟩⟩

/-- Settles O51: on a decoded key both forms write `State.withCode`, and only TOTP writes ERR and NOSEC besides. -/
theorem cachedKeyFormEqualsTotp : Obligations.CachedKeyFormEqualsTotp := by
  intro s hdecode hne
  obtain ⟨_, hscript⟩ := runInstrs_tstep_hmac_trunc s
  obtain ⟨_, htotp, -⟩ := exec_totp_of_key (hdecode ▸ hne)
  rw [← hdecode] at htotp
  exact ⟨_, _, hscript, htotp, rfl⟩

end Sys2Proof.Machine
end

section
/-! PROOFS. The decoder and the encoder (30_encoding.md sections 1 to 5). -/

namespace Sys2Proof.Machine

/-! ### The two register maps as lists (R92), in which a look-up is quick to evaluate -/

/-- The reads by register number. -/
def readList : List Instr := readMap0.toList ++ readMap1.toList ++ readMap2.toList ++ readMap3.toList

/-- The writes by register number. -/
def writeList : List (Word → Instr) := writeMap0.toList ++ writeMap1.toList ++ writeMap2.toList ++ writeMap3.toList

theorem toList_readMap : readMap.toList = readList := by
  simp only [readMap, readList, Vector.toList_append]

theorem toList_writeMap : writeMap.toList = writeList := by
  simp only [writeMap, writeList, Vector.toList_append]

theorem decode_read_of_listed {n : BitVec 6} {i : Instr} (d : Word) (h : readList[n.toNat]? = some i) :
    decode (.mk 0 n d) = i := by
  rw [← toList_readMap, Vector.getElem?_toList, Vector.getElem?_eq_getElem n.isLt] at h
  rw [decode_read]
  exact Option.some.inj h

theorem decode_write_of_listed {n : BitVec 6} {f : Word → Instr} (d : Word) (h : writeList[n.toNat]? = some f) :
    decode (.mk 1 n d) = f d := by
  rw [← toList_writeMap, Vector.getElem?_toList, Vector.getElem?_eq_getElem n.isLt] at h
  rw [decode_write]
  exact congrFun (Option.some.inj h) d

/-- The numbers 0x20 to 0x2F are those of the W registers, in order (R94). -/
theorem getElem?_list_wNumber (k : Fin 16) :
    readList[(wNumber k).toNat]? = some (.rdW k) ∧ writeList[(wNumber k).toNat]? = some (.wrW k) := by
  fin_cases k <;> exact ⟨rfl, rfl⟩

theorem readMap_spec : ∀ n : BitVec 6,
    readMap[n.toNat].wellFormed = true ∧ encode readMap[n.toNat] = readWord n := by decide

/-! ### Command words (R91, R93, R95) -/

/-- Each of the thirteen opcodes is decoded to the command that is encoded with it. -/
theorem decodeCommand_of_opcode : ∀ op ∈ commandOpcodes,
    (decodeCommand (.ofNat 32 op)).wellFormed = true ∧
      encode (decodeCommand (.ofNat 32 op)) = commandWord (.ofNat 32 op) := by decide

theorem decodeCommand_of_not_isCommandWord {v : Word} (hv : isCommandWord v = false) : decodeCommand v = .illcmd v := by
  by_cases hhigh : v.toNat / 2 ^ 8 = 0
  · have hlow : v.toNat % 2 ^ 8 = v.toNat := by omega
    have hmem : v.toNat ∉ commandOpcodes := by simpa [isCommandWord] using hv
    rw [decodeCommand, if_pos ((highBits_eq_zero_iff v).2 hhigh), toNat_lowByte, hlow]
    split
    case h_14 => rfl
    all_goals exact absurd (by simp [*, commandOpcodes]) hmem
  · exact decodeCommand_of_high_ne hhigh

/-- A write of CMD, whether it is a command or an illegal one. -/
theorem decodeCommand_spec (v : Word) :
    (decodeCommand v).wellFormed = true ∧ encode (decodeCommand v) = commandWord v := by
  cases hv : isCommandWord v with
  | true =>
    have hspec := decodeCommand_of_opcode v.toNat (List.contains_iff_mem.1 hv)
    rwa [BitVec.ofNat_toNat, BitVec.setWidth_eq] at hspec
  | false =>
    rw [decodeCommand_of_not_isCommandWord hv]
    exact ⟨congrArg not hv, rfl⟩

/-- Of the 64 numbers only that of CMD looks at its word (R92). -/
theorem writeMap_spec (n : BitVec 6) (d : Word) :
    (writeMap[n.toNat] d).wellFormed = true ∧ encode (writeMap[n.toNat] d) = writeWord n d := by
  obtain ⟨n⟩ := n
  fin_cases n
  · exact decodeCommand_spec d
  all_goals exact ⟨rfl, rfl⟩

/-! ### The statements -/

/-- Settles O2: each instruction stands in its list at the number it is encoded with, and a command is decoded from its
word. -/
theorem decodeEncodeRoundTrip : Obligations.DecodeEncodeRoundTrip := by
  intro i hi
  cases i
  case illcmd v =>
    rw [Instr.wellFormed, Bool.not_eq_true'] at hi
    exact (decode_cmdWrite v).trans (decodeCommand_of_not_isCommandWord hi)
  case nop | reset | clrsec | clrkey | clrmsg | b32dec | shinit | shblk | sha1 | hmac | tstep | trunc | totp =>
    exact decode_cmdWrite _
  case wrW k d => exact decode_write_of_listed d (getElem?_list_wNumber k).2
  case rdW k => exact decode_read_of_listed 0 (getElem?_list_wNumber k).1
  case rdStatus | rdTimelo | rdTimehi | rdBufidx | rdSeclen | rdKeylen | rdMsglen | rdSecrd | rdKeyrd | rdMsgrd
      | rdH0 | rdH1 | rdH2 | rdH3 | rdH4 | rdDig0 | rdDig1 | rdDig2 | rdDig3 | rdDig4 | rdOffset | rdValue | rdCode
      | rdCodebcd | rdCmd | rdSecpush | rdKeypush | rdMsgpush | rdRsv0E | rdRsv0F | rdRsv15 | rdRsv16 | rdRsv17
      | rdRsv31 | rdRsv32 | rdRsv33 | rdRsv34 | rdRsv35 | rdRsv36 | rdRsv37 | rdRsv38 | rdRsv39 | rdRsv3A | rdRsv3B
      | rdRsv3C | rdRsv3D | rdRsv3E | rdRsv3F => exact decode_read_of_listed 0 rfl
  all_goals exact decode_write_of_listed _ rfl

/-- Settles O3: the two maps give each number an instruction that is encoded with it, and the mask clears the data field
of a read. -/
theorem encodeDecodeWord : Obligations.EncodeDecodeWord := by
  intro x
  rw [← x.mk_fields, Transaction.wr_mk]
  by_cases hwr : x.wr = 1
  · rw [hwr, decode_write, if_pos rfl]
    exact writeMap_spec x.n x.data
  · have hzero : x.wr = 0 := by bv_omega
    rw [hzero, decode_read, if_neg (by decide), Laws.mk_and_register]
    exact readMap_spec x.n

/-- Settles O1: each word is a closed one, which the decoder evaluates. -/
theorem sampleWordsDecode : Obligations.SampleWordsDecode := by
  and_intros <;> decide

end Sys2Proof.Machine
end

section
/-! PROOFS. What one instruction can do to the state, said once: the inversion of `exec`. -/

namespace Sys2Proof.Machine

/-- The instruction answers the word `f` of the state, which the answers themselves do not enter (R74). -/
def Reads (i : Instr) (f : State → Word) : Prop :=
  ∀ s : State, exec i s = .next (s.answer (f s)) ∧ ∀ v : Word, f (s.answer v) = f s

/-- What an engine command leaves in the hidden registers beside the engine's: ACC and NB as they were, PHASE idle
(R36, R37). -/
structure Hidden.SettledFrom (g old : Hidden) : Prop where
  acc : g.acc = old.acc
  nb : g.nb = old.nb
  phase : g.phase = Phase.idle

/-- The state after an instruction, with all it writes. Illegal accesses, reads and overflowing pushes have one effect
each; every other instruction has its own. -/
inductive Effect (s : State) : Instr → State → Prop
  | illegal {i : Instr} (h : Illegal i) : Effect s i { s with ill := true }
  | read {i : Instr} {f : State → Word} (h : Reads i f) : Effect s i (s.answer (f s))
  | nop : Effect s .nop s
  | reset : Effect s .reset s.hardReset
  | clrsec : Effect s .clrsec { s with sec := [] }
  | clrkey : Effect s .clrkey { s with key := [], kblk := Vector.replicate 64 0 }
  | clrmsg : Effect s .clrmsg { s with msg := [] }
  | b32dec : Effect s .b32dec s.decodeSecret
  | shinit : Effect s .shinit s.shinit
  | shblk : Effect s .shblk s.shblk
  | sha1 {g : Hidden} (hg : g.SettledFrom s.hid) : Effect s .sha1 { s with
      h := sha1Chain s.msg, w := lastBlockWords s.msg, dig := digest (sha1Chain s.msg), dv := true, hid := g }
  | hmac {g : Hidden} (hg : g.SettledFrom s.hid) : Effect s .hmac { s with
      h := sha1Chain (outerMessage s.key s.msg), w := lastBlockWords (outerMessage s.key s.msg),
      dig := sha1 (outerMessage s.key s.msg), kblk := keyBlock s.key, dv := true, hid := g }
  | tstep : Effect s .tstep s.timeStep
  | trunc : Effect s .trunc s.truncate.cvFromDv
  | noSecret (hsec : s.sec = []) : Effect s .totp { s with
      key := [], nosec := true, err := false, cv := false, hid := (s.enter .decode).decodeSecret.finish.hid }
  | noKey (hsec : s.sec ≠ []) (hkey : b32decode s.sec = []) : Effect s .totp { s with
      key := [], nosec := false, err := true, cv := false, hid := (s.enter .decode).decodeSecret.finish.hid }
  | code {g : Hidden} (hkey : b32decode s.sec ≠ [])
      (hacc : g.acc = 0) (hnb : g.nb = 0) (hphase : g.phase = Phase.idle) :
      Effect s .totp { { s with key := b32decode s.sec }.withCode with err := false, nosec := false, hid := g }
  | wrTimelo (v : Word) : Effect s (.wrTimelo v) { s with time := setTimeLo s.time v }
  | wrTimehi (v : Word) : Effect s (.wrTimehi v) { s with time := setTimeHi s.time v }
  | wrSecpush (v : Word) (hfits : s.sec.length < s.cfg.secCap) :
      Effect s (.wrSecpush v) { s with sec := s.sec ++ [pushByte v] }
  | wrKeypush (v : Word) (hfits : s.key.length < s.cfg.keyCap) :
      Effect s (.wrKeypush v) { s with key := s.key ++ [pushByte v] }
  | wrMsgpush (v : Word) (hfits : s.msg.length < s.cfg.msgCap) :
      Effect s (.wrMsgpush v) { s with msg := s.msg ++ [pushByte v] }
  | overflow {i : Instr} (h : Push i) : Effect s i { s with ovf := true }
  | wrBufidx (v : Word) : Effect s (.wrBufidx v) { s with bufidx := v }
  | wrW (k : Fin 16) (v : Word) : Effect s (.wrW k v) { s with w := s.w.set k v }

/-- The outcomes of TOTP (R250 to R252). -/
theorem exec_totp_effect (s : State) : ∃ t, exec .totp s = .next t ∧ Effect s .totp t := by
  by_cases hsec : s.sec = []
  · exact ⟨_, exec_totp_of_noSecret hsec, .noSecret hsec⟩
  by_cases hkey : b32decode s.sec = []
  · exact ⟨_, exec_totp_of_noKey hsec hkey, .noKey hsec hkey⟩
  · obtain ⟨g, hexec, hacc, hnb, hphase⟩ := exec_totp_of_key hkey
    exact ⟨_, hexec, .code hkey hacc hnb hphase⟩

theorem exec_effect_of_illegal {i : Instr} (h : Illegal i) (s : State) : ∃ t, exec i s = .next t ∧ Effect s i t :=
  ⟨_, exec_of_illegal h s, .illegal h⟩

theorem exec_effect_of_reads {i : Instr} {f : State → Word} (h : Reads i f) (s : State) :
    ∃ t, exec i s = .next t ∧ Effect s i t :=
  ⟨_, (h s).1, .read h⟩

/-- Every instruction answers a next state, and it is the one of its effect. -/
theorem exec_effect (i : Instr) (s : State) : ∃ t, exec i s = .next t ∧ Effect s i t := by
  cases i
  case nop => exact ⟨_, rfl, .nop⟩
  case reset => exact ⟨_, rfl, .reset⟩
  case clrsec => exact ⟨_, rfl, .clrsec⟩
  case clrkey => exact ⟨_, rfl, .clrkey⟩
  case clrmsg => exact ⟨_, rfl, .clrmsg⟩
  case b32dec => exact ⟨_, rfl, .b32dec⟩
  case shinit => exact ⟨_, rfl, .shinit⟩
  case shblk => exact ⟨_, rfl, .shblk⟩
  case sha1 =>
    obtain ⟨g, hexec, -, -, hacc, hnb, hphase⟩ := sha1HashesMessage s
    exact ⟨_, hexec, .sha1 ⟨hacc, hnb, hphase⟩⟩
  case hmac =>
    obtain ⟨g, hrun, hacc, hnb⟩ := runHmac_spec s
    rw [exec_hmac, hrun]
    exact ⟨_, rfl, .hmac ⟨hacc, hnb, rfl⟩⟩
  case tstep => exact ⟨_, rfl, .tstep⟩
  case trunc => exact ⟨_, rfl, .trunc⟩
  case totp => exact exec_totp_effect s
  case wrTimelo v => exact ⟨_, rfl, .wrTimelo v⟩
  case wrTimehi v => exact ⟨_, rfl, .wrTimehi v⟩
  case wrSecpush v =>
    obtain ⟨hfits, heq⟩ | ⟨-, heq⟩ := pushSec_cases (pushByte v) s
    · exact ⟨_, congrArg Host.Outcome.next heq, .wrSecpush v hfits⟩
    · exact ⟨_, congrArg Host.Outcome.next heq, .overflow ⟨v, .inl rfl⟩⟩
  case wrKeypush v =>
    obtain ⟨hfits, heq⟩ | ⟨-, heq⟩ := pushKey_cases (pushByte v) s
    · exact ⟨_, congrArg Host.Outcome.next heq, .wrKeypush v hfits⟩
    · exact ⟨_, congrArg Host.Outcome.next heq, .overflow ⟨v, .inr (.inl rfl)⟩⟩
  case wrMsgpush v =>
    obtain ⟨hfits, heq⟩ | ⟨-, heq⟩ := pushMsg_cases (pushByte v) s
    · exact ⟨_, congrArg Host.Outcome.next heq, .wrMsgpush v hfits⟩
    · exact ⟨_, congrArg Host.Outcome.next heq, .overflow ⟨v, .inr (.inr rfl)⟩⟩
  case wrBufidx v => exact ⟨_, rfl, .wrBufidx v⟩
  case wrW k v => exact ⟨_, rfl, .wrW k v⟩
  case illcmd v => exact exec_effect_of_illegal ⟨v, .inl rfl⟩ s
  case wrStatus v | wrSeclen v | wrKeylen v | wrMsglen v | wrSecrd v | wrKeyrd v | wrMsgrd v | wrH0 v | wrH1 v | wrH2 v
      | wrH3 v | wrH4 v | wrDig0 v | wrDig1 v | wrDig2 v | wrDig3 v | wrDig4 v | wrOffset v | wrValue v | wrCode v
      | wrCodebcd v =>
    exact exec_effect_of_illegal ⟨v, .inr (.inl (by simp [readOnlyWrites]))⟩ s
  case wrRsv0E v | wrRsv0F v | wrRsv15 v | wrRsv16 v | wrRsv17 v | wrRsv31 v | wrRsv32 v | wrRsv33 v | wrRsv34 v
      | wrRsv35 v | wrRsv36 v | wrRsv37 v | wrRsv38 v | wrRsv39 v | wrRsv3A v | wrRsv3B v | wrRsv3C v | wrRsv3D v
      | wrRsv3E v | wrRsv3F v =>
    exact exec_effect_of_illegal ⟨v, .inr (.inr (by simp [reservedWrites]))⟩ s
  all_goals exact exec_effect_of_reads (fun _ => ⟨rfl, fun _ => rfl⟩) s

theorem effect_of_exec {i : Instr} {s t : State} (h : exec i s = .next t) : Effect s i t := by
  obtain ⟨u, hexec, heffect⟩ := exec_effect i s
  cases hexec.symm.trans h
  exact heffect

end Sys2Proof.Machine
end

section
/-! PROOFS. What follows for all instructions and for every step: reads (20_memory.md R74), the invariant (Safety.lean),
the sticky flags (60_exceptions.md R304, R305), the table of writers (10_state.md R40), and that no step stops (R300). -/

namespace Sys2Proof.Machine

/-! ### Reads -/

theorem reads_readMap (n : BitVec 6) : ∃ f, Reads readMap[n.toNat] f := by
  obtain ⟨n⟩ := n
  fin_cases n <;> exact ⟨_, fun _ => ⟨rfl, fun _ => rfl⟩⟩

/-! ### The invariant -/

theorem hardReset_inv {s : State} (hcfg : s.cfg.ok) : s.hardReset.Inv where
  cfg := hcfg
  memory := hardReset_wf s
  code := (by decide : State.reset.CodeAgrees)
  flags := (by decide : State.reset.FlagsAgree)
  idle := rfl
  drained := ⟨rfl, rfl⟩

/-- Every effect keeps the invariant. The fields of the invariant that do not see what is written are those of before. -/
theorem effect_inv {i : Instr} {s t : State} (h : s.Inv) (heffect : Effect s i t) : t.Inv := by
  obtain ⟨hsec, hkey, hmsg⟩ := h.memory
  obtain ⟨hclrsec, hclrkey, hclrmsg⟩ := clear_wf s h.memory
  cases heffect with
  | illegal | overflow | read | nop | shinit | shblk | wrTimelo | wrTimehi | wrBufidx | wrW => exact { h with }
  | reset => exact hardReset_inv h.cfg
  | clrsec => exact { h with memory := hclrsec }
  | clrkey => exact { h with memory := hclrkey _ }
  | clrmsg => exact { h with memory := hclrmsg }
  | b32dec => exact { h with memory := decodeSecret_wf s h.cfg h.memory, drained := ⟨rfl, rfl⟩ }
  | sha1 hg | hmac hg =>
    exact { h with
      flags := ⟨fun _ => rfl, h.flags.2⟩
      idle := hg.phase
      drained := ⟨hg.acc.trans h.drained.1, hg.nb.trans h.drained.2⟩ }
  | tstep => exact { h with memory := timeStep_wf s h.cfg h.memory }
  | trunc => exact { h with code := ⟨rfl, rfl⟩, flags := ⟨id, h.flags.2⟩ }
  | noSecret | noKey =>
    exact { h with
      memory := hclrkey s.kblk
      flags := ⟨nofun, nofun⟩
      idle := rfl
      drained := ⟨rfl, rfl⟩ }
  | code _ hacc hnb hphase =>
    exact { h with
      memory := timeStep_wf s.decodeSecret h.cfg (decodeSecret_wf s h.cfg h.memory)
      code := ⟨rfl, rfl⟩
      flags := ⟨fun _ => rfl, nofun⟩
      idle := hphase
      drained := ⟨hacc, hnb⟩ }
  | wrSecpush v hfits => exact { h with memory := ⟨by simpa using hfits, hkey, hmsg⟩ }
  | wrKeypush v hfits => exact { h with memory := ⟨hsec, by simpa using hfits, hmsg⟩ }
  | wrMsgpush v hfits => exact { h with memory := ⟨hsec, hkey, by simpa using hfits⟩ }

/-! ### Steps -/

theorem step_of_pending_nil {s : State} (hp : s.pending = []) : step s = .next s := by
  simp [step, State.takeEvent, hp]

theorem step_of_pending_access {s : State} {x : Transaction} {rest : List PortEvent}
    (hp : s.pending = .access x :: rest) : step s = exec (decode x) { s with pending := rest } := by
  simp [step, State.takeEvent, hp]

/-! ### The statements -/

/-- Settles O9: the event taken is no part of the invariant, and an access has an effect that keeps it. -/
theorem stepKeepsInv : Obligations.StepKeepsInv := by
  intro s t hinv hstep
  rcases hp : s.pending with _ | ⟨x | _, rest⟩
  · cases (step_of_pending_nil hp).symm.trans hstep
    exact hinv
  · have hinv' : State.Inv { s with pending := rest } := { hinv with }
    exact effect_inv hinv' (effect_of_exec ((step_of_pending_access hp).symm.trans hstep))
  · cases (step_of_pending_hardReset hp).symm.trans hstep
    exact hardReset_inv hinv.cfg

/-- Settles O52: an effect other than that of RESET sets ILL, sets OVF, or leaves both. -/
theorem stickyFaultFlags : Obligations.StickyFaultFlags := by
  intro i s t hexec hreset
  cases effect_of_exec hexec with
  | reset => exact absurd rfl hreset
  | illegal => exact ⟨fun _ => rfl, id⟩
  | overflow => exact ⟨id, fun _ => rfl⟩
  | _ => exact ⟨id, id⟩

/-- Settles O53: in each effect, the columns it leaves are unchanged by definition and the columns it writes name its
instruction. -/
theorem writersOfEachState : Obligations.WritersOfEachState := by
  intro i s t hexec hreset
  cases effect_of_exec hexec with
  | reset => exact absurd rfl hreset
  | illegal h | overflow h => simp [h]
  | code => simp [State.withCode]
  | _ => simp

/-- Settles O24: a read answers a word that does not depend on the answers given before. -/
theorem readsLeaveBlockAlone : Obligations.ReadsLeaveBlockAlone := by
  intro x s hread
  obtain ⟨f, hf⟩ := reads_readMap x.n
  obtain ⟨hanswer, hsame⟩ := hf s
  have hagain := (hf (s.answer (f s))).1
  rw [hsame] at hagain
  rw [← x.mk_fields, hread, decode_read]
  exact ⟨f s, hanswer, hagain⟩

/-- Settles O5: the case of `step` for an access. -/
theorem stepRunsDecodedAccess : Obligations.StepRunsDecodedAccess := by
  rintro s x rest i hp rfl
  exact step_of_pending_access hp

/-- Settles O6: the case of `step` for no event. -/
theorem idleStepHoldsState : Obligations.IdleStepHoldsState := fun _ => step_of_pending_nil

/-- Settles O10: the start state is its own hard reset. -/
theorem resetHasInv : Obligations.ResetHasInv := hardReset_inv (s := State.reset) (by decide)

/-- Settles O11: every instruction has an effect, and the other two cases of `step` answer outright. -/
theorem everyStepAnswersNext : Obligations.EveryStepAnswersNext := by
  intro s
  rcases hp : s.pending with _ | ⟨x | _, rest⟩
  · exact ⟨_, step_of_pending_nil hp⟩
  · rw [step_of_pending_access hp]
    exact (exec_effect _ _).imp fun _ => And.left
  · exact ⟨_, step_of_pending_hardReset hp⟩

/-- Settles O8: both events end in `State.hardReset` of the state with the event taken. -/
theorem resetCommandEqualsHardReset : Obligations.ResetCommandEqualsHardReset := by
  intro s rest
  have hevent : step { s with pending := .hardReset :: rest } = .next { s with pending := rest }.hardReset :=
    step_of_pending_hardReset rfl
  have hcommand : step { s with pending := .access (encode .reset) :: rest } =
      .next { s with pending := rest }.hardReset := by
    rw [step_of_pending_access rfl, decodeEncodeRoundTrip .reset rfl]
    rfl
  exact ⟨rfl, hevent, hcommand.trans hevent.symm⟩

/-- Settles O12: the four effects as they stand; ACC and NB are zero after CLRKEY because it keeps the invariant. -/
theorem housekeepingCommands : Obligations.HousekeepingCommands := by
  refine fun s => ⟨rfl, rfl, ⟨Vector.replicate 64 0, rfl, fun i => ?_, fun t hinv ht => ?_⟩, rfl⟩
  · exact Vector.getElem_replicate i.isLt
  · exact (effect_inv hinv (effect_of_exec ht)).drained

/-- Settles O20: each read answers its word. -/
theorem chainAndBlockWordsRead : Obligations.ChainAndBlockWordsRead := fun _ =>
  ⟨rfl, rfl, rfl, rfl, rfl, fun _ => rfl⟩

end Sys2Proof.Machine
end

section
/-! PROOFS. Base32 on whole groups (41_base32.md R170), and the command B32DEC (R169). -/

namespace Sys2Proof.Machine

/-! ### Bytes and groups, bit by bit -/

/-- Vectors are equal when their bits are, counted from the most significant. -/
theorem eq_of_getLsbD_rev {k : Nat} {v w : BitVec k} (h : ∀ i < k, v.getLsbD (k - 1 - i) = w.getLsbD (k - 1 - i)) :
    v = w := by
  refine BitVec.eq_of_getLsbD_eq fun i hi => ?_
  have hbit := h (k - 1 - i) (by omega)
  rwa [show k - 1 - (k - 1 - i) = i by omega] at hbit

/-- Bit `n` of the bytes one after the other, the first bit of each its bit 7 (R164). -/
def byteBit (b : List Byte) (n : Nat) : Bool := (b.getD (n / 8) 0).getLsbD (7 - n % 8)

/-- Group `j` of five bits of the bytes, the first the most significant (R163). -/
def groupOfBytes (b : List Byte) (j : Nat) : BitVec 5 := BitVec.ofFnLE fun i => byteBit b (5 * j + (4 - i))

theorem getLsbD_groupOfBytes (b : List Byte) (j : Nat) {i : Nat} (hi : i < 5) :
    (groupOfBytes b j).getLsbD (4 - i) = byteBit b (5 * j + i) := by
  have hlt : 4 - i < 5 := by omega
  have hrev : 4 - (4 - i) = i := by omega
  simp [groupOfBytes, hlt, hrev]

/-- The bytes cut from bits are these when the bits are theirs. -/
theorem bytesOfBits_eq_iff {bs : List Bool} {b : List Byte} (hlen : bs.length = 8 * b.length) :
    bytesOfBits bs = b ↔ ∀ n < bs.length, bs.getD n false = byteBit b n := by
  constructor
  · rintro rfl n hn
    have hj : n / 8 < (bytesOfBits bs).length := by omega
    have hbit := getLsbD_bytesOfBits hj (Nat.mod_lt n (by decide))
    rw [Nat.div_add_mod] at hbit
    exact hbit.symm
  · intro h
    refine List.ext_getElem (by rw [length_bytesOfBits]; omega) fun j hj hj' => eq_of_getLsbD_rev fun i hi => ?_
    have hbit := getLsbD_bytesOfBits hj hi
    rw [h _ (by omega), byteBit, show (8 * j + i) / 8 = j by omega, show (8 * j + i) % 8 = i by omega,
      List.getD_eq_getElem _ _ hj, List.getD_eq_getElem _ _ hj'] at hbit
    exact hbit

/-- Groups with the bits of bytes are the groups of those bytes. -/
theorem flatMap_groupBits_eq_iff {vs : List (BitVec 5)} {b : List Byte} :
    (∀ n < 5 * vs.length, (vs.flatMap groupBits).getD n false = byteBit b n) ↔
      ∀ j < vs.length, vs.getD j 0 = groupOfBytes b j := by
  constructor
  · intro h j hj
    refine eq_of_getLsbD_rev fun i hi => ?_
    rw [← getD_flatMap_groupBits hj hi, h _ (by omega)]
    exact (getLsbD_groupOfBytes b j hi).symm
  · intro h n hn
    have hj : n / 5 < vs.length := by omega
    have hi : n % 5 < 5 := Nat.mod_lt n (by decide)
    have hbit := getD_flatMap_groupBits hj hi
    rwa [h _ hj, getLsbD_groupOfBytes b _ hi, Nat.div_add_mod] at hbit

/-! ### The symbol of a value -/

/-- The alphabet symbol of a value (R161). -/
def symbolOfValue (v : BitVec 5) : Byte :=
  if v.toNat < 26 then BitVec.ofNat 8 (0x41 + v.toNat) else BitVec.ofNat 8 (0x32 + (v.toNat - 26))

theorem symbolValue_symbolOfValue : ∀ v : BitVec 5, symbolValue (symbolOfValue v) = some v := by decide

theorem map_symbolOfValue_symbolValue :
    ∀ c : Byte, (symbolValue c).map symbolOfValue = Option.guard (fun c => (symbolValue c).isSome) c := by decide

theorem alphabetValues_map_symbolOfValue (vs : List (BitVec 5)) : alphabetValues (vs.map symbolOfValue) = vs := by
  have hsome : symbolValue ∘ symbolOfValue = some := funext symbolValue_symbolOfValue
  rw [alphabetValues, List.filterMap_map, hsome, List.filterMap_some]

/-- A sequence of alphabet symbols only is known by its values. -/
theorem map_symbolOfValue_alphabetValues {s : List Byte} (hs : alphabetCount s = s.length) :
    (alphabetValues s).map symbolOfValue = s := by
  have hfilter : (alphabetValues s).map symbolOfValue = s.filter fun c => (symbolValue c).isSome := by
    rw [alphabetValues, List.map_filterMap, funext map_symbolOfValue_symbolValue, List.filterMap_eq_filter]
  have hlen : (s.filter fun c => (symbolValue c).isSome).length = s.length := by
    rw [← hfilter, List.length_map]
    exact hs
  rw [hfilter, List.filter_sublist.eq_of_length hlen]

/-! ### Whole groups -/

/-- The groups of bytes that fill whole groups. -/
def groupsOfBytes (b : List Byte) : List (BitVec 5) := (List.range (8 * b.length / 5)).map (groupOfBytes b)

theorem length_groupsOfBytes (b : List Byte) : (groupsOfBytes b).length = 8 * b.length / 5 := by simp [groupsOfBytes]

/-- Symbols that fill the bytes exactly decode to them when their values are the groups of the bytes. -/
theorem b32decode_eq_iff {s b : List Byte} (hlen : 5 * alphabetCount s = 8 * b.length) :
    b32decode s = b ↔ alphabetValues s = groupsOfBytes b := by
  have hbits : (symbolBits s).length = 8 * b.length := (length_symbolBits s).trans hlen
  have hvalues : (alphabetValues s).length = (groupsOfBytes b).length := by
    rw [length_groupsOfBytes, ← hlen, Nat.mul_div_cancel_left _ (by decide)]
    rfl
  rw [b32decode_eq_byBits, b32decodeByBits, bytesOfBits_eq_iff hbits, length_symbolBits]
  refine flatMap_groupBits_eq_iff.trans ⟨fun h => ?_, fun h j hj => ?_⟩
  · refine List.ext_getElem hvalues fun j hj hj' => ?_
    rw [← List.getD_eq_getElem _ 0 hj, h j hj]
    simp [groupsOfBytes]
  · rw [h, List.getD_eq_getElem _ _ (hvalues ▸ hj)]
    simp [groupsOfBytes]

/-! ### The statements -/

/-- Settles O29: the one sequence is that of the symbols of the groups of the bytes. -/
theorem wholeGroupsDecodeOnto : Obligations.WholeGroupsDecodeOnto := by
  intro b hb
  have hlen : 5 * (groupsOfBytes b).length = 8 * b.length := by rw [length_groupsOfBytes]; omega
  have hvalues := alphabetValues_map_symbolOfValue (groupsOfBytes b)
  have hcount : alphabetCount ((groupsOfBytes b).map symbolOfValue) = (groupsOfBytes b).length :=
    congrArg List.length hvalues
  refine ⟨(groupsOfBytes b).map symbolOfValue, ⟨?_, ?_, ?_⟩, ?_⟩
  · rw [List.length_map, hlen]
  · rw [List.length_map, hcount]
  · exact (b32decode_eq_iff (hcount ▸ hlen)).2 hvalues
  · rintro s ⟨hs, hall, hdecode⟩
    rw [← (b32decode_eq_iff (hall ▸ hs)).1 hdecode, map_symbolOfValue_alphabetValues hall]

/-- Settles O30: P165 computes the decode by bit string, and its leftover bits are discarded. -/
theorem b32decReplacesKey : Obligations.B32decReplacesKey := fun s =>
  ⟨b32decode s.sec, s.decodeSecret.hid, rfl, b32decode_eq_byBits s.sec, (decodedLength s.sec).1, rfl,
    rfl, rfl, rfl, rfl, rfl⟩

end Sys2Proof.Machine
end

section
/-! PROOFS. The host's scripts (30_encoding.md R98, R99): what each leaves in the block. -/

namespace Sys2Proof.Machine

/-! ### Running a script -/

@[simp] theorem runInstrs_nil (s : State) : runInstrs [] s = .next s := rfl

/-- The first line of a script, when the instruction is one that some transaction encodes. -/
theorem runInstrs_cons_of_wellFormed {i : Instr} (hi : i.wellFormed = true) (is : List Instr) (s : State) :
    runInstrs (i :: is) s = andThen (exec i s) (runInstrs is) :=
  runInstrs_cons (decodeEncodeRoundTrip i hi) is s

theorem runInstrs_append (is js : List Instr) (s : State) :
    runInstrs (is ++ js) s = andThen (runInstrs is s) (runInstrs js) := by
  rw [runInstrs, script, List.map_append, runScript_append]
  rfl

/-! ### The three pushing scripts -/

theorem pushByte_pushData (b : Byte) : pushByte (pushData b) = b := by
  rw [← BitVec.toNat_inj, toNat_pushByte, pushData, BitVec.toNat_setWidth_of_le (by decide), Nat.mod_eq_of_lt b.isLt]

/-- Pushes of bytes into a buffer with room for them append the bytes; `load` is the state as a function of the
buffer. -/
theorem runInstrs_pushes {push : Byte → Instr} {load : List Byte → State} {cap : Nat}
    (hwf : ∀ b, (push b).wellFormed = true)
    (hpush : ∀ buf b, buf.length < cap → exec (push b) (load buf) = .next (load (buf ++ [b])))
    (bytes buf : List Byte) (hfits : buf.length + bytes.length ≤ cap) :
    runInstrs (bytes.map push) (load buf) = .next (load (buf ++ bytes)) := by
  induction bytes generalizing buf with
  | nil => rw [List.append_nil, List.map_nil, runInstrs_nil]
  | cons b bytes ih =>
    rw [List.length_cons] at hfits
    rw [List.map_cons, runInstrs_cons_of_wellFormed (hwf b), hpush buf b (by omega), andThen_next,
      ih (buf ++ [b]) (by rw [List.length_append, List.length_singleton]; omega), List.append_assoc,
      List.singleton_append]

theorem runInstrs_scriptSec {bytes : List Byte} {s : State} (hfits : bytes.length ≤ s.cfg.secCap) :
    runInstrs (scriptSec bytes) s = .next { s with sec := bytes } := by
  have hpush (buf : List Byte) (b : Byte) (hlt : buf.length < s.cfg.secCap) :
      exec (.wrSecpush (pushData b)) { s with sec := buf } = .next { s with sec := buf ++ [b] } := by
    rw [exec_wrSecpush, pushByte_pushData, State.pushSec, if_pos hlt]
  rw [scriptSec, runInstrs_cons_of_wellFormed rfl]
  exact runInstrs_pushes (fun _ => rfl) hpush bytes [] (by simpa using hfits)

theorem runInstrs_scriptKey {bytes : List Byte} {s : State} (hfits : bytes.length ≤ s.cfg.keyCap) :
    runInstrs (scriptKey bytes) s = .next { s with key := bytes, kblk := Vector.replicate 64 0 } := by
  have hpush (buf : List Byte) (b : Byte) (hlt : buf.length < s.cfg.keyCap) :
      exec (.wrKeypush (pushData b)) { s with key := buf, kblk := Vector.replicate 64 0 } =
        .next { s with key := buf ++ [b], kblk := Vector.replicate 64 0 } := by
    rw [exec_wrKeypush, pushByte_pushData, State.pushKey, if_pos hlt]
  rw [scriptKey, runInstrs_cons_of_wellFormed rfl]
  exact runInstrs_pushes (fun _ => rfl) hpush bytes [] (by simpa using hfits)

theorem runInstrs_scriptMsg {bytes : List Byte} {s : State} (hfits : bytes.length ≤ s.cfg.msgCap) :
    runInstrs (scriptMsg bytes) s = .next { s with msg := bytes } := by
  have hpush (buf : List Byte) (b : Byte) (hlt : buf.length < s.cfg.msgCap) :
      exec (.wrMsgpush (pushData b)) { s with msg := buf } = .next { s with msg := buf ++ [b] } := by
    rw [exec_wrMsgpush, pushByte_pushData, State.pushMsg, if_pos hlt]
  rw [scriptMsg, runInstrs_cons_of_wellFormed rfl]
  exact runInstrs_pushes (fun _ => rfl) hpush bytes [] (by simpa using hfits)

/-! ### The scripts of TIME and W -/

/-- The low half of the second write's state is the half the first wrote. -/
theorem setTimeHi_setTimeLo (time t : BitVec 64) : setTimeHi (setTimeLo time (timeLo t)) (timeHi t) = t := by
  rw [← BitVec.toNat_inj, toNat_setTimeHi, toNat_setTimeLo, toNat_timeHi, toNat_timeLo]
  omega

theorem runInstrs_scriptTime (t : BitVec 64) (s : State) : runInstrs (scriptTime t) s = .next { s with time := t } := by
  rw [scriptTime, runInstrs_cons_of_wellFormed rfl, exec_wrTimelo, andThen_next, runInstrs_cons_of_wellFormed rfl,
    exec_wrTimehi, andThen_next, runInstrs_nil, setTimeHi_setTimeLo]

/-- W after writes of words of `w` at some indices. -/
def writeWords (w : Vector Word 16) (is : List (Fin 16)) (old : Vector Word 16) : Vector Word 16 :=
  is.foldl (fun v (i : Fin 16) => v.set i w[i]) old

theorem runInstrs_wrWs (w : Vector Word 16) (is : List (Fin 16)) (s : State) :
    runInstrs (is.map fun i => .wrW i w[i]) s = .next { s with w := writeWords w is s.w } := by
  induction is generalizing s with
  | nil => rfl
  | cons i is ih =>
    rw [List.map_cons, runInstrs_cons_of_wellFormed rfl, exec_wrW, andThen_next, ih]
    rfl

/-- A word once written is the word of `w`, whether or not it is written again. -/
theorem getElem_writeWords (w : Vector Word 16) (is : List (Fin 16)) (old : Vector Word 16) (j : Fin 16)
    (hj : j ∈ is ∨ old[j] = w[j]) : (writeWords w is old)[j] = w[j] := by
  induction is generalizing old with
  | nil => exact hj.resolve_left (List.not_mem_nil)
  | cons i is ih =>
    refine ih (old.set i w[i]) ?_
    by_cases hij : i = j
    · subst hij
      exact .inr (Vector.getElem_set_self i.isLt)
    · refine hj.imp (fun hmem => (List.mem_cons.1 hmem).resolve_left (Ne.symm hij)) fun hold => ?_
      exact (Vector.getElem_set_ne i.isLt j.isLt (Fin.val_ne_of_ne hij)).trans hold

theorem runInstrs_scriptBlock (w : Vector Word 16) (s : State) :
    runInstrs (scriptBlock w) s = .next { s with w := w } := by
  have hall : writeWords w (List.finRange 16) s.w = w :=
    Vector.ext fun i hi => getElem_writeWords w _ s.w ⟨i, hi⟩ (.inl (List.mem_finRange _))
  rw [scriptBlock, runInstrs_wrWs, hall]

/-! ### The statement -/

/-- Settles O54: one lemma for each script. -/
theorem scriptsLoadOperands : Obligations.ScriptsLoadOperands := fun s _ t w =>
  ⟨runInstrs_scriptSec, runInstrs_scriptKey, runInstrs_scriptMsg, runInstrs_scriptTime t s, runInstrs_scriptBlock w s⟩

end Sys2Proof.Machine
end

section
/-! PROOFS. The schedule in sixteen words (42_sha1.md R197), hashing block by block through the port (R195, R333), and
the blocks of an HMAC (43_hmac.md R229). -/

namespace Sys2Proof.Machine

/-! ### The circular schedule (R197) -/

theorem circularStep_of_lt {t : Nat} (ht : t < 16) (buf : Vector Word 16) : circularStep buf t = buf := if_pos ht

/-- From step 16 on a step replaces the word at `t mod 16` by the recurrence, its slots counted up from `t − 16`. -/
theorem circularStep_add (buf : Vector Word 16) (n : Nat) :
    circularStep buf (16 + n) = buf.set ((16 + n) % 16)
      (rotl32 (buf[(n + 13) % 16]'(Nat.mod_lt _ (by decide)) ^^^ buf[(n + 8) % 16]'(Nat.mod_lt _ (by decide)) ^^^
        buf[(n + 2) % 16]'(Nat.mod_lt _ (by decide)) ^^^ buf[n % 16]'(Nat.mod_lt _ (by decide))) 1)
      (Nat.mod_lt _ (by decide)) := by
  simp only [circularStep, if_neg (show ¬ 16 + n < 16 by omega), show 16 + n - 3 = n + 13 by omega,
    show 16 + n - 8 = n + 8 by omega, show 16 + n - 14 = n + 2 by omega, Nat.add_mod_left]

/-- The first sixteen steps replace nothing. -/
theorem circularBuffer_of_le (w : Vector Word 16) {t : Nat} (ht : t ≤ 16) : circularBuffer w t = w := by
  induction t with
  | zero => rfl
  | succ t ih => rw [circularBuffer, ih (by omega), circularStep_of_lt (by omega)]

theorem getElem_schedule_of_lt (w : Vector Word 16) {j : Nat} (hj : j < 16) : (schedule w)[j] = w[j] :=
  (scheduleRecurrence w).1 j hj

/-- Before step `16 + n` the buffer holds the words `n` to `n + 15` of the schedule, each at its index modulo 16. -/
theorem circularBuffer_add (w : Vector Word 16) {n : Nat} (hn : n ≤ 64) {j : Nat} (hlo : n ≤ j) (hhi : j < 16 + n) :
    (circularBuffer w (16 + n))[j % 16]'(Nat.mod_lt _ (by decide)) = (schedule w)[j] := by
  induction n generalizing j with
  | zero => simp only [circularBuffer_of_le w (Nat.le_refl 16), Nat.mod_eq_of_lt hhi, getElem_schedule_of_lt w hhi]
  | succ n ih =>
    have hword {i : Nat} (h1 : n ≤ i) (h2 : i < 16 + n) := ih (by omega) h1 h2
    have hstep : circularBuffer w (16 + (n + 1)) = _ := circularStep_add (circularBuffer w (16 + n)) n
    simp only [hstep]
    rcases Nat.lt_or_ge j (16 + n) with hlt | hge
    · rw [Vector.getElem_set_ne _ _ (by omega)]
      exact hword (by omega) hlt
    · obtain rfl : j = 16 + n := by omega
      rw [Vector.getElem_set_self, hword (by omega) (by omega), hword (by omega) (by omega),
        hword (by omega) (by omega), hword (by omega) (by omega)]
      exact (getElem_schedule_add w (by omega)).symm

/-! ### Hashing block by block through the port (R333) -/

/-- The host's script for blocks leaves H and W as the engine does, and touches no other register it can read. -/
theorem runInstrs_hashBlocks (bs : List (List Byte)) (s : State) :
    ∃ g : Hidden, runInstrs (bs.flatMap fun blk => scriptBlock (wordsOfBlock blk) ++ [.shblk]) s = .next { s with
      h := bs.foldl (fun h blk => compress h (wordsOfBlock blk)) s.h
      w := bs.foldl (fun _ blk => wordsOfBlock blk) s.w
      hid := g } := by
  induction bs generalizing s with
  | nil => exact ⟨s.hid, rfl⟩
  | cons blk bs ih =>
    obtain ⟨g, hg⟩ := ih { s with w := wordsOfBlock blk }.shblk
    refine ⟨g, ?_⟩
    rw [List.flatMap_cons, runInstrs_append, runInstrs_append, runInstrs_scriptBlock, andThen_next,
      runInstrs_cons_of_wellFormed rfl, exec_shblk, andThen_next, runInstrs_nil, andThen_next, hg]
    rfl

theorem runInstrs_scriptHash (m : List Byte) (s : State) :
    ∃ g : Hidden, runInstrs (scriptHash m) s = .next { s with h := sha1Chain m, w := lastBlockWords m, hid := g } := by
  obtain ⟨g, hg⟩ := runInstrs_hashBlocks (blocks m) s.shinit
  refine ⟨g, ?_⟩
  rw [scriptHash, runInstrs_cons_of_wellFormed rfl, exec_shinit, andThen_next, hg,
    foldl_last wordsOfBlock _ (blocks_ne_nil m) []]
  unfold sha1Chain lastBlockWords
  rfl

/-! ### The blocks of an HMAC (R229) -/

theorem length_ipad (k0 : Vector Byte 64) : (ipad k0).length = 64 := by simp [ipad_eq]

theorem length_opad (k0 : Vector Byte 64) : (opad k0).length = 64 := by simp [opad_eq]

theorem outerMessage_eq_append (key msg : List Byte) :
    outerMessage key msg = opad (keyBlock key) ++ (innerDigest key msg).toList := by
  unfold outerMessage
  rfl

/-- A message that begins with a whole block: the padding counts the block and follows the rest. -/
theorem pad_block_append {a : List Byte} (ha : a.length = 64) (m : List Byte) :
    pad (a ++ m) =
      a ++ (m ++ [0x80] ++ List.replicate (padZeros (64 + m.length)) 0x00 ++ be64 (lengthField (64 + m.length))) := by
  rw [pad_eq, List.length_append, ha]
  simp only [List.append_assoc]

theorem head?_blocks_append {a : List Byte} (ha : a.length = 64) (m : List Byte) :
    (blocks (a ++ m)).head? = some a := by
  have hpos : 0 < (blocks (a ++ m)).length := List.length_pos_iff.2 (blocks_ne_nil _)
  rw [List.head?_eq_getElem?, List.getElem?_eq_getElem hpos, getElem_blocks, pad_block_append ha, Nat.mul_zero,
    List.drop_zero, List.take_left' ha]

/-- At most 55 bytes after the first block fill one more with their padding (R190). -/
theorem blocks_block_append {a m : List Byte} (ha : a.length = 64) (hm : m.length ≤ 55) :
    blocks (a ++ m) =
      [a, m ++ [0x80] ++ List.replicate (55 - m.length) 0x00 ++ be64 (BitVec.ofNat 64 (8 * (64 + m.length)))] := by
  have hzeros : padZeros (64 + m.length) = 55 - m.length := by unfold padZeros; omega
  have hfield : lengthField (64 + m.length) = BitVec.ofNat 64 (8 * (64 + m.length)) := if_pos (by omega)
  have hsecond : (m ++ [0x80] ++ List.replicate (55 - m.length) (0x00 : Byte) ++
      be64 (BitVec.ofNat 64 (8 * (64 + m.length)))).length = 64 := by
    simp only [List.length_append, List.length_singleton, List.length_replicate, length_be64]
    omega
  rw [blocks_eq, pad_block_append ha, hzeros, hfield, List.length_append, ha, hsecond]
  simp only [show List.range ((64 + 64) / 64) = [0, 1] from rfl, List.map_cons, List.map_nil, Nat.mul_zero, Nat.mul_one,
    List.drop_zero, List.take_left' ha, List.drop_left' ha, List.take_of_length_le hsecond.le]

/-! ### The statements -/

/-- Settles O36: before step 16 the buffer is the block, and from then on it holds the last sixteen words. -/
theorem circularScheduleAgrees : Obligations.CircularScheduleAgrees := by
  intro w t ht
  rcases Nat.lt_or_ge t 16 with hlt | hge
  · simp only [circularWord, circularBuffer_of_le w (Nat.succ_le_of_lt hlt), Nat.mod_eq_of_lt hlt,
      getElem_schedule_of_lt w hlt]
  · obtain ⟨n, rfl⟩ := Nat.exists_eq_add_of_le hge
    exact circularBuffer_add w (n := n + 1) (by omega) (by omega) (by omega)

/-- Settles O40: the host's script and the command end with the same H and W. -/
theorem blockByBlockEqualsSha1 : Obligations.BlockByBlockEqualsSha1 := by
  intro s
  obtain ⟨_, hscript⟩ := runInstrs_scriptHash s.msg s
  obtain ⟨_, hsha1, -⟩ := sha1HashesMessage s
  exact ⟨_, _, hscript, hsha1, rfl, rfl, rfl, rfl⟩

/-- Settles O43: both messages begin with a whole block, and the digest and the counter bytes leave room for the padding
in the second. -/
theorem hmacBlockCounts : Obligations.HmacBlockCounts := by
  intro key msg
  have hinner : (innerDigest key msg).toList.length = 20 := Vector.length_toList
  have hipad := length_ipad (keyBlock key)
  have hopad := length_opad (keyBlock key)
  rw [outerMessage_eq_append]
  refine ⟨?outerLength, ?outerBlocks, ?innerCount, head?_blocks_append hipad msg, fun hmsg => ?innerBlocks⟩
  case outerLength => rw [List.length_append, hopad, hinner]
  case outerBlocks =>
    have hblocks := blocks_block_append hopad (m := (innerDigest key msg).toList) (by omega)
    rwa [hinner] at hblocks
  case innerCount =>
    rw [length_blocks, List.length_append, hipad]
    omega
  case innerBlocks =>
    have hblocks := blocks_block_append hipad (m := msg) (by omega)
    rwa [hmsg] at hblocks

end Sys2Proof.Machine
end

section
/-! PROOFS. The three outcomes of TOTP (44_totp_truncation.md R250 to R252). -/

namespace Sys2Proof.Machine

theorem ne_nil_of_b32decode_ne_nil {sec : List Byte} (h : b32decode sec ≠ []) : sec ≠ [] := by
  rintro rfl
  exact h ((b32decode_eq_nil_iff []).2 (by decide))

/-- Settles O48: a secret without a key has the hidden registers of the decode, and one with a key those of its HMAC. -/
theorem totpOutcomes : Obligations.TotpOutcomes := by
  intro s
  by_cases hkey : b32decode s.sec = []
  · refine ⟨(s.enter .decode).decodeSecret.finish.hid, rfl, rfl, rfl, exec_totp_of_noSecret, exec_totp_of_noKey,
      fun _ hne => absurd hkey hne⟩
  · have hsec := ne_nil_of_b32decode_ne_nil hkey
    obtain ⟨g, hexec, hacc, hnb, hphase⟩ := exec_totp_of_key hkey
    refine ⟨g, hphase, hacc, hnb, fun hnil => absurd hnil hsec, fun _ hnil => absurd hnil hkey, fun _ _ => ?code⟩
    case code =>
      dsimp only
      rw [hexec, hmac_eq]
      rfl

end Sys2Proof.Machine
end

section
/-! PROOFS. The host's Scheduler (45_scheduler_host.md R271 to R282). -/

namespace Sys2Proof.Machine

/-! ### Normalisation (R271) -/

theorem normalise_append (a b : List Nat) : normalise (a ++ b) = normalise a ++ normalise b := by
  simp [normalise]

theorem isWhitespace_iff (c : Nat) : isWhitespace c = true ↔ c = 0x20 ∨ (0x09 ≤ c ∧ c ≤ 0x0D) := by
  simp [isWhitespace, or_comm]

theorem normalise_whitespace {c : Nat} (hc : isWhitespace c = true) : normalise [c] = [] := by
  simp [normalise, hc]

theorem normalise_symbol {c : Nat} (hc : isWhitespace c = false) : normalise [c] = [symbolOfChar (upperCase c)] := by
  simp [normalise, hc]

theorem toNat_symbolOfChar (c : Nat) : (symbolOfChar c).toNat = if c < 256 then c else 0 := by
  unfold symbolOfChar
  split
  case isTrue hlt => exact (BitVec.toNat_ofNat ..).trans (Nat.mod_eq_of_lt hlt)
  case isFalse => rfl

/-- The code of the symbol of a character (R271). -/
theorem toNat_symbol (c : Nat) : (symbolOfChar (upperCase c)).toNat =
    if 0x61 ≤ c ∧ c ≤ 0x7A then c - 0x20 else if c < 256 then c else 0 := by
  rw [toNat_symbolOfChar, upperCase]
  split
  · exact if_pos (by omega)
  · rfl

/-- Symbols normalisation leaves as they are: no whitespace, no lower-case letters. -/
def Normalised (c : Byte) : Prop := isWhitespace c.toNat = false ∧ ¬(0x61 ≤ c.toNat ∧ c.toNat ≤ 0x7A)

theorem normalised_of_mem_normalise {text : List Nat} {c : Byte} (hc : c ∈ normalise text) : Normalised c := by
  obtain ⟨d, hd, rfl⟩ := List.mem_map.1 hc
  have hspace : ¬(d = 0x20 ∨ (0x09 ≤ d ∧ d ≤ 0x0D)) := by
    rw [← isWhitespace_iff]
    simpa using (List.mem_filter.1 hd).2
  have hsymbol := toNat_symbol d
  rw [Normalised, ← Bool.not_eq_true, isWhitespace_iff]
  split at hsymbol
  · omega
  · split at hsymbol <;> omega

theorem symbol_of_normalised {c : Byte} (hc : Normalised c) : symbolOfChar (upperCase c.toNat) = c := by
  rw [← BitVec.toNat_inj, toNat_symbol, if_neg hc.2, if_pos c.isLt]

theorem normalise_map_toNat {s : List Byte} (hs : ∀ c ∈ s, Normalised c) : normalise (s.map fun c => c.toNat) = s := by
  induction s with
  | nil => rfl
  | cons c s ih =>
    have hc := hs c List.mem_cons_self
    rw [List.map_cons, ← List.singleton_append, normalise_append, normalise_symbol hc.1, symbol_of_normalised hc,
      ih fun d hd => hs d (List.mem_cons_of_mem c hd), List.singleton_append]

/-! ### The words a tick reads -/

/-- Bits 1 and 2 of the word STATUS reads as are those of CV and ERR, whatever the other flags (R33). -/
theorem getElem_flagWord : ∀ ovf ill nosec err cv dv : Bool,
    let word := BitVec.ofNat 32
      (ovf.toNat * 32 + ill.toNat * 16 + nosec.toNat * 8 + err.toNat * 4 + cv.toNat * 2 + dv.toNat)
    word[1] = cv ∧ word[2] = err := by decide

theorem getElem_statusWord (s : State) : s.statusWord[1] = s.cv ∧ s.statusWord[2] = s.err :=
  getElem_flagWord s.ovf s.ill s.nosec s.err s.cv s.dv

theorem lastAnswer_answer (sched : Scheduler) (s : State) (v : Word) :
    (System.mk sched (s.answer v)).lastAnswer = v := by
  simp [System.lastAnswer]

theorem exec_rdStatus (s : State) : exec .rdStatus s = .next (s.answer s.statusWord) := rfl

theorem exec_rdCodebcd (s : State) : exec .rdCodebcd s = .next (s.answer (zext32 s.codebcd)) := rfl

/-! ### A tick (R274) -/

/-- What a tick publishes for a secret that is not empty: the code of the window of `now`, or the error signal when the
secret gives no key. -/
def tickPublication (sec : List Byte) (now : BitVec 64) : Publication :=
  if b32decode sec = [] then .invalidSecret
  else .code (codeString (truncCode (truncValue (hmac (b32decode sec) (counterBytes now))))) (secondsRemaining now)

/-- A tick runs TOTP at the instant, reads STATUS, and publishes what that says. -/
theorem tickNow_eq {y : System} {now : BitVec 64} {t : State} (ht : exec .totp { y.block with time := now } = .next t) :
    y.tickNow now = ({ y with block := t.answer t.statusWord } : System).publishOutcome now := by
  rw [System.tickNow, System.run, runInstrs_append, runInstrs_scriptTime, andThen_next,
    runInstrs_cons_of_wellFormed rfl, ht, andThen_next, runInstrs_cons_of_wellFormed rfl, exec_rdStatus]
  rfl

theorem publishOutcome_of_cv {sched : Scheduler} {t : State} (now : BitVec 64) (hcv : t.cv = true) :
    (System.mk sched (t.answer t.statusWord)).publishOutcome now =
      .next ⟨{ sched with
        published := sched.published ++ [.code (bcdString (zext32 t.codebcd)) (secondsRemaining now)] },
        (t.answer t.statusWord).answer (zext32 t.codebcd)⟩ := by
  rw [System.publishOutcome, lastAnswer_answer, (getElem_statusWord t).1, if_pos hcv, System.run,
    runInstrs_cons_of_wellFormed rfl, exec_rdCodebcd, andThen_next, runInstrs_nil, andThen_next, andThen_next,
    lastAnswer_answer]
  rfl

theorem publishOutcome_of_err {sched : Scheduler} {t : State} (now : BitVec 64) (hcv : t.cv = false)
    (herr : t.err = true) :
    (System.mk sched (t.answer t.statusWord)).publishOutcome now =
      .next ⟨{ sched with published := sched.published ++ [.invalidSecret] }, t.answer t.statusWord⟩ := by
  rw [System.publishOutcome, lastAnswer_answer, (getElem_statusWord t).1, (getElem_statusWord t).2, hcv, if_neg nofun,
    if_pos herr]
  rfl

/-- A tick publishes once, leaves SEC and TIME as given, and flags ERR when there is no key. -/
theorem tickNow_spec {y : System} (now : BitVec 64) (hsec : y.block.sec ≠ []) :
    ∃ b : State, y.tickNow now = .next
        ⟨{ y.sched with published := y.sched.published ++ [tickPublication y.block.sec now] }, b⟩ ∧
      b.sec = y.block.sec ∧ b.time = now ∧ (b32decode y.block.sec = [] → b.err = true) := by
  unfold tickPublication
  by_cases hkey : b32decode y.block.sec = []
  · rw [tickNow_eq (exec_totp_of_noKey (s := { y.block with time := now }) hsec hkey), if_pos hkey,
      publishOutcome_of_err now rfl rfl]
    exact ⟨_, rfl, rfl, rfl, fun _ => rfl⟩
  · obtain ⟨g, hexec, -⟩ := exec_totp_of_key (s := { y.block with time := now }) hkey
    rw [tickNow_eq hexec, if_neg hkey, publishOutcome_of_cv now rfl, codeString_eq_bcdString, hmac_eq]
    exact ⟨_, rfl, rfl, rfl, fun hnil => absurd hnil hkey⟩

/-! ### Activation (R272, R277) -/

theorem activate_spec {y : System} {secret : List Byte} (now : BitVec 64) (hne : secret ≠ [])
    (hfits : secret.length ≤ y.block.cfg.secCap) :
    ∃ b : State, y.activate secret now = .next
        ⟨⟨.active, true, y.sched.published ++ [tickPublication secret now]⟩, b⟩ ∧ b.sec = secret ∧ b.time = now := by
  obtain ⟨b, htick, hsec, htime, -⟩ :=
    tickNow_spec (y := ⟨⟨.active, false, y.sched.published⟩, { y.block with sec := secret }⟩) now hne
  refine ⟨b, ?_, hsec, htime⟩
  rw [System.activate, System.run, runInstrs_scriptSec hfits, andThen_next, andThen_next, htick]
  rfl

/-! ### Deactivation (R273) -/

theorem deactivate_of_active {y : System} (hmode : y.sched.mode = .active) :
    y.deactivate = .next ⟨⟨.idle, false, y.sched.published ++ [.neutral]⟩,
      { y.block with sec := [], key := [], kblk := Vector.replicate 64 0 }⟩ := by
  rw [System.deactivate, hmode]
  dsimp only
  rw [System.run, runInstrs_cons_of_wellFormed rfl]
  rfl

/-! ### The statements -/

/-- Settles O55: normalisation goes symbol by symbol, and leaves a normalised symbol as it is. -/
theorem normalisedSecret : Obligations.NormalisedSecret := by
  refine ⟨rfl, normalise_append,
    fun c => ⟨fun hc => normalise_whitespace ((isWhitespace_iff c).2 hc), fun hc => ?symbol⟩,
    fun text => ⟨fun c => normalised_of_mem_normalise, normalise_map_toNat fun c => normalised_of_mem_normalise⟩⟩
  case symbol =>
    have hspace : isWhitespace c = false := by rwa [← Bool.not_eq_true, isWhitespace_iff]
    have hsymbol := toNat_symbol c
    refine ⟨_, normalise_symbol hspace, fun hlower => ?lower, fun hother hnarrow => ?other, fun hwide => ?wide⟩
    case lower =>
      rw [hsymbol, if_pos hlower]
      omega
    case other => rw [hsymbol, if_neg hother, if_pos hnarrow]
    case wide => rw [hsymbol, if_neg (by omega), if_neg (by omega)]

/-- Settles O56: arithmetic of the remainder modulo 30. -/
theorem secondsRemainingCountsDown : Obligations.SecondsRemainingCountsDown := by
  unfold Obligations.SecondsRemainingCountsDown secondsRemaining
  exact ⟨fun t => by omega, fun t u hu => by omega⟩

/-- Settles O57: the armed timer takes the tick, whose publication is the code. -/
theorem tickPublishesCode : Obligations.TickPublishesCode := by
  intro y now htimer hkey
  obtain ⟨b, htick, hb, htime, -⟩ := tickNow_spec now (ne_nil_of_b32decode_ne_nil hkey)
  rw [tickPublication, if_neg hkey] at htick
  exact ⟨_, (if_pos htimer).trans htick, rfl, hb, htime⟩

/-- Settles O58: the same tick, whose publication is the error signal. -/
theorem tickPublishesInvalidSecret : Obligations.TickPublishesInvalidSecret := by
  intro y now htimer hsec hkey
  obtain ⟨b, htick, -, -, herr⟩ := tickNow_spec now hsec
  rw [tickPublication, if_pos hkey] at htick
  exact ⟨_, (if_pos htimer).trans htick, rfl, herr hkey⟩

/-- Settles O59: an activation loads the whole secret before its one tick. -/
theorem entryPublishesExactlyOnce : Obligations.EntryPublishesExactlyOnce := by
  intro y text now hne hfits
  obtain ⟨b, hactivate, hsec, htime⟩ := activate_spec now hne hfits
  refine ⟨_, (if_neg hne).trans hactivate, hsec, htime, fun hkey => ?_, fun hkey => ?_⟩
  · rw [tickPublication, if_neg hkey]
  · rw [tickPublication, if_pos hkey]

/-- Settles O60: both inputs deactivate, and the timer is not armed after that. -/
theorem idleClearsKeyAndStopsTicks : Obligations.IdleClearsKeyAndStopsTicks := by
  intro y i hmode hi
  have hreact : y.react i = y.deactivate := by
    obtain rfl | ⟨text, now, rfl, hnil⟩ := hi
    · rfl
    · exact if_pos hnil
  exact ⟨_, hreact.trans (deactivate_of_active hmode),
    ⟨Vector.replicate 64 0, rfl, fun i => Vector.getElem_replicate i.isLt⟩, rfl, fun now => rfl⟩

end Sys2Proof.Machine
end
